-- ==== Sys2Proof/Word.lean ====
section
/-! DEFINITION. The widths the block works in: a 32-bit word on each port, 8-bit field elements and operands. -/

namespace Sys2Proof

/-- A word of the `CMD` or `RESP` port (R60), 32 bits (R6 `XLEN`). -/
abbrev Word := BitVec 32

/-- One byte: an element of GF(256) (R100), an entry of `CW`, `GEN`, `SYN` (R50), an 8-bit operand (R70). -/
abbrev Byte := BitVec 8

end Sys2Proof
end

