-- ==== Sys2Proof/Syntax.lean ====
section
/-! DEFINITION. The 26 commands of 30_encoding.md rule R73, one constructor per row, each operand at the width
of its field (R74). -/

namespace Sys2Proof

/-- A command of the block. The order is the opcode map's. -/
inductive Instr where
  /-- `NOP`, R190 -/
  | nop
  /-- `GF_MUL a, b`, R107 -/
  | gfMul (a b : Byte)
  /-- `GF_DIV a, b` (dividend, divisor), R108 -/
  | gfDiv (a b : Byte)
  /-- `GF_EXP i`, R109 -/
  | gfExp (i : Byte)
  /-- `GF_LOG a`, R110 -/
  | gfLog (a : Byte)
  /-- `RS_CFG k, r`, R121 -/
  | rsCfg (k r : Byte)
  /-- `RS_WR idx, byte`, R122 -/
  | rsWr (idx byte : Byte)
  /-- `RS_RD idx`, R123 -/
  | rsRd (idx : Byte)
  /-- `RS_ENC`, R125 -/
  | rsEnc
  /-- `RS_SYND`, R129 -/
  | rsSynd
  /-- `RS_RDSYN j`, R130 -/
  | rsRdsyn (j : Byte)
  /-- `RS_RDGEN i`, R131 -/
  | rsRdgen (i : Byte)
  /-- `BCH_FMT d`, R142 -/
  | bchFmt (d : BitVec 5)
  /-- `BCH_VER v`, R145 -/
  | bchVer (v : BitVec 6)
  /-- `GRID_CFG n`, R161 -/
  | gridCfg (n : Byte)
  /-- `GRID_WR row, col, v`, R162 -/
  | gridWr (row col : Byte) (v : BitVec 1)
  /-- `GRID_RD row, col`, R163 -/
  | gridRd (row col : Byte)
  /-- `PEN_SCORE`, R165 -/
  | penScore
  /-- `PEN_RD sel`, R171 -/
  | penRd (sel : BitVec 3)
  /-- `SEL_CLR`, R172 -/
  | selClr
  /-- `SEL_UPD m`, R173 -/
  | selUpd (m : BitVec 3)
  /-- `SEL_RD`, R174 -/
  | selRd
  /-- `STAT_RD`, R191 -/
  | statRd
  /-- `ID_RD`, R192 -/
  | idRd
  /-- `FCMD_RD`, R193 -/
  | fcmdRd
  /-- `SRESET`, R194 -/
  | sreset
  deriving DecidableEq, Repr

end Sys2Proof
end

