-- ==== Sys2Proof/Decode.lean ====
section
/-! DEFINITION. Command words (30_encoding.md): the opcode map, the decoder, total on all 2³² words, and the
encoder, each written from the map of rule R73 and the formats of rule R71. -/

namespace Sys2Proof

/-- One row of the opcode map of R73: a word `w` is an instance of the row exactly when `w and mask = match`. -/
structure OpcodeRow where
  mnemonic : String
  pattern  : Word
  mask     : Word
  deriving DecidableEq, Repr

/-- The opcode map (R73), row for row. The decoder below is not computed from it: that the two agree is a
statement about the decoder. -/
def opcodeMap : List OpcodeRow :=
  [⟨"NOP",       0x00000000#32, 0xFFFFFFFF#32⟩,
   ⟨"GF_MUL",    0x01000000#32, 0xFFFF0000#32⟩,
   ⟨"GF_DIV",    0x02000000#32, 0xFFFF0000#32⟩,
   ⟨"GF_EXP",    0x03000000#32, 0xFFFFFF00#32⟩,
   ⟨"GF_LOG",    0x04000000#32, 0xFFFFFF00#32⟩,
   ⟨"RS_CFG",    0x10000000#32, 0xFFFF0000#32⟩,
   ⟨"RS_WR",     0x11000000#32, 0xFFFF0000#32⟩,
   ⟨"RS_RD",     0x12000000#32, 0xFFFFFF00#32⟩,
   ⟨"RS_ENC",    0x13000000#32, 0xFFFFFFFF#32⟩] ++
  [⟨"RS_SYND",   0x14000000#32, 0xFFFFFFFF#32⟩,
   ⟨"RS_RDSYN",  0x15000000#32, 0xFFFFFF00#32⟩,
   ⟨"RS_RDGEN",  0x16000000#32, 0xFFFFFF00#32⟩,
   ⟨"BCH_FMT",   0x20000000#32, 0xFFFFFFE0#32⟩,
   ⟨"BCH_VER",   0x21000000#32, 0xFFFFFFC0#32⟩,
   ⟨"GRID_CFG",  0x30000000#32, 0xFFFFFF00#32⟩,
   ⟨"GRID_WR",   0x31000000#32, 0xFF0000FE#32⟩,
   ⟨"GRID_RD",   0x32000000#32, 0xFF0000FF#32⟩,
   ⟨"PEN_SCORE", 0x33000000#32, 0xFFFFFFFF#32⟩] ++
  [⟨"PEN_RD",    0x34000000#32, 0xFFFFFFF8#32⟩,
   ⟨"SEL_CLR",   0x38000000#32, 0xFFFFFFFF#32⟩,
   ⟨"SEL_UPD",   0x39000000#32, 0xFFFFFFF8#32⟩,
   ⟨"SEL_RD",    0x3A000000#32, 0xFFFFFFFF#32⟩,
   ⟨"STAT_RD",   0xF0000000#32, 0xFFFFFFFF#32⟩,
   ⟨"ID_RD",     0xF1000000#32, 0xFFFFFFFF#32⟩,
   ⟨"FCMD_RD",   0xF2000000#32, 0xFFFFFFFF#32⟩,
   ⟨"SRESET",    0xFF000000#32, 0xFFFFFFFF#32⟩]

/-- `w` is an instance of the row (R73). -/
def OpcodeRow.matches (row : OpcodeRow) (w : Word) : Bool := w &&& row.mask == row.pattern

/-- Bits 31:24, the opcode (R70). -/
def opOf (w : Word) : Byte := w.extractLsb' 24 8

/-- Bits 23:16, the operand field `f2` (R70). -/
def f2Of (w : Word) : Byte := w.extractLsb' 16 8

/-- Bits 15:8, the operand field `f1` (R70). -/
def f1Of (w : Word) : Byte := w.extractLsb' 8 8

/-- Bits 7:0, the operand field `f0` (R70). -/
def f0Of (w : Word) : Byte := w.extractLsb' 0 8

/-- Why a word is no command: cases (a) and (b) of R75. (Case (c), `PEN_RD` with a reserved selector, matches its
row and is rejected by that command's own rule, as R73 says: log 6.) -/
inductive DecodeError where
  /-- R72 step 2: the opcode is not one of the 26. -/
  | unlistedOpcode (op : Byte)
  /-- R72 step 3: a bit that the command's row marks "must be 0" is 1. -/
  | mustBeZeroBit (w : Word)
  deriving DecidableEq, Repr

/-- Format Z (R71): bits 23:0 must be 0. -/
def formZ (w : Word) (i : Instr) : Except DecodeError Instr :=
  if w.extractLsb' 0 24 = 0#24 then .ok i else .error (.mustBeZeroBit w)

/-- Format B (R71) with an operand of all 8 bits of `f0`. -/
def formB (w : Word) (mk : Byte → Instr) : Except DecodeError Instr :=
  if f2Of w = 0#8 ∧ f1Of w = 0#8 then .ok (mk (f0Of w)) else .error (.mustBeZeroBit w)

/-- Format B with an operand in the low `n` bits of `f0`, the high bits of `f0` being 0 (R74). -/
def formBLow (n : Nat) (w : Word) (mk : BitVec n → Instr) : Except DecodeError Instr :=
  if f2Of w = 0#8 ∧ f1Of w = 0#8 ∧ (f0Of w).extractLsb' n (8 - n) = 0 then .ok (mk ((f0Of w).extractLsb' 0 n))
  else .error (.mustBeZeroBit w)

/-- Format AB (R71): two 8-bit operands, the first in `f1`. -/
def formAB (w : Word) (mk : Byte → Byte → Instr) : Except DecodeError Instr :=
  if f2Of w = 0#8 then .ok (mk (f1Of w) (f0Of w)) else .error (.mustBeZeroBit w)

/-- Format G (R71): `row`, `col`, and `v` in bit 0, bits 7:1 being 0. -/
def formG (w : Word) (mk : Byte → Byte → BitVec 1 → Instr) : Except DecodeError Instr :=
  if (f0Of w).extractLsb' 1 7 = 0#7 then .ok (mk (f2Of w) (f1Of w) ((f0Of w).extractLsb' 0 1))
  else .error (.mustBeZeroBit w)

/-- Format GR (R71): `row`, `col`, and `f0` = 0. -/
def formGR (w : Word) (mk : Byte → Byte → Instr) : Except DecodeError Instr :=
  if f0Of w = 0#8 then .ok (mk (f2Of w) (f1Of w)) else .error (.mustBeZeroBit w)

/-- R72 steps 2 and 3: the command a word is an instance of, or why it is none. -/
def decode (w : Word) : Except DecodeError Instr :=
  match opOf w with
  | 0x00#8 => formZ w .nop
  | 0x01#8 => formAB w .gfMul
  | 0x02#8 => formAB w .gfDiv
  | 0x03#8 => formB w .gfExp
  | 0x04#8 => formB w .gfLog
  | 0x10#8 => formAB w .rsCfg
  | 0x11#8 => formAB w .rsWr
  | 0x12#8 => formB w .rsRd
  | 0x13#8 => formZ w .rsEnc
  | 0x14#8 => formZ w .rsSynd
  | 0x15#8 => formB w .rsRdsyn
  | 0x16#8 => formB w .rsRdgen
  | 0x20#8 => formBLow 5 w .bchFmt
  | 0x21#8 => formBLow 6 w .bchVer
  | 0x30#8 => formB w .gridCfg
  | 0x31#8 => formG w .gridWr
  | 0x32#8 => formGR w .gridRd
  | 0x33#8 => formZ w .penScore
  | 0x34#8 => formBLow 3 w .penRd
  | 0x38#8 => formZ w .selClr
  | 0x39#8 => formBLow 3 w .selUpd
  | 0x3A#8 => formZ w .selRd
  | 0xF0#8 => formZ w .statRd
  | 0xF1#8 => formZ w .idRd
  | 0xF2#8 => formZ w .fcmdRd
  | 0xFF#8 => formZ w .sreset
  | op => .error (.unlistedOpcode op)

/-- The word with the four byte fields of R70. -/
def wordOf (op f2 f1 f0 : Byte) : Word := op ++ f2 ++ f1 ++ f0

/-- The word of a command (R71, R73): its opcode, its operands in their fields, zeros elsewhere. -/
def encode : Instr → Word
  | .nop => wordOf 0x00 0 0 0
  | .gfMul a b => wordOf 0x01 0 a b
  | .gfDiv a b => wordOf 0x02 0 a b
  | .gfExp i => wordOf 0x03 0 0 i
  | .gfLog a => wordOf 0x04 0 0 a
  | .rsCfg k r => wordOf 0x10 0 k r
  | .rsWr idx byte => wordOf 0x11 0 idx byte
  | .rsRd idx => wordOf 0x12 0 0 idx
  | .rsEnc => wordOf 0x13 0 0 0
  | .rsSynd => wordOf 0x14 0 0 0
  | .rsRdsyn j => wordOf 0x15 0 0 j
  | .rsRdgen i => wordOf 0x16 0 0 i
  | .bchFmt d => wordOf 0x20 0 0 (d.zeroExtend 8)
  | .bchVer v => wordOf 0x21 0 0 (v.zeroExtend 8)
  | .gridCfg n => wordOf 0x30 0 0 n
  | .gridWr row col v => wordOf 0x31 row col (v.zeroExtend 8)
  | .gridRd row col => wordOf 0x32 row col 0
  | .penScore => wordOf 0x33 0 0 0
  | .penRd sel => wordOf 0x34 0 0 (sel.zeroExtend 8)
  | .selClr => wordOf 0x38 0 0 0
  | .selUpd m => wordOf 0x39 0 0 (m.zeroExtend 8)
  | .selRd => wordOf 0x3A 0 0 0
  | .statRd => wordOf 0xF0 0 0 0
  | .idRd => wordOf 0xF1 0 0 0
  | .fcmdRd => wordOf 0xF2 0 0 0
  | .sreset => wordOf 0xFF 0 0 0

/-- The command word whose bits `spec/opcode_table.json` numbers as `w`: the low `nbits` bits, zeros above. -/
def tableWord (nbits w : Nat) : Word := BitVec.ofNat 32 (w % 2 ^ nbits)

/-- The command the decoder reads from that word. -/
def decodeTableWord (nbits w : Nat) : Option Instr := (decode (tableWord nbits w)).toOption

end Sys2Proof
end

