-- ==== Sys2Proof/Config.lean ====
section
/-! DEFINITION. The block's parameters, at the values of 00_scope.md rule R6. The block leaves no value open
(93_implementation_defined.md: "no `any value` behaviour"), so no constant here is without a body. -/

namespace Sys2Proof.Config

/-- `FIELD_POLY` (R6): x⁸+x⁴+x³+x²+1 as a 9-bit number. -/
def fieldPoly : BitVec 9 := 0x11D#9

/-- `ALPHA` (R6): the primitive element x whose powers fill the antilog table. -/
def alpha : Byte := 0x02#8

/-- `R_MAX` (R6): the largest parity count. -/
def rMax : Nat := 30

/-- `CW_LEN` (R6): the entries of the codeword buffer. -/
def cwLen : Nat := 255

/-- `G15` (R6): the format-word generator x¹⁰+x⁸+x⁵+x⁴+x²+x+1. -/
def g15 : Nat := 0x537

/-- `G15_MASK` (R6): the format word's mask. -/
def g15Mask : Nat := 0x5412

/-- `G18` (R6): the version-word generator x¹²+x¹¹+x¹⁰+x⁹+x⁸+x⁵+x²+1. -/
def g18 : Nat := 0x1F25

/-- `N_MAX` (R6): the largest grid dimension. -/
def nMax : Nat := 177

/-- `N_MIN` (R6): the smallest grid dimension. -/
def nMin : Nat := 1

/-- `W1_BASE` (R6): what a run of the shortest scoring length scores. -/
def w1Base : Nat := 3

/-- `W1_FROM` (R6): the shortest scoring run. -/
def w1From : Nat := 5

/-- `W2` (R6): the weight of one 2 × 2 block. -/
def w2 : Nat := 3

/-- `W3` (R6): the weight of one finder-like window. -/
def w3 : Nat := 40

/-- `W4` (R6): the weight of one step of deviation. -/
def w4 : Nat := 10

/-- `W4_STEP` (R6): the percentage points of one step of deviation. -/
def w4Step : Nat := 5

/-- `MASKS` (R6): the number of mask indices, 0 to 7; `SEL_UPD`'s operand has just the bits for them. -/
def masks : Nat := 8

/-- `ID_VALUE` (R6, R192): what `ID_RD` returns. -/
def idValue : Word := 0x51520100#32

end Sys2Proof.Config
end

