-- ==== Sys2Proof/Machine/State.lean ====
section
/-! DEFINITION. The block's state (10_state.md), the reset state (rule R37), and the reasons a step of the model
can stop. The spec's own faults are no stops: fault entry (60_exceptions.md rule R204) is a next state. -/

namespace Sys2Proof.Machine

/-- The contents of a byte array of R50, as (element index, byte) pairs: indices strictly rising, no pair whose byte
is what an unlisted index reads as. `Memory.wf` (Machine/Ops.lean) says so; log 10. -/
abbrev Memory := List Host.Cell

/-- `GRID` (R32): 177 rows, bit `x` of row `y` being `GRID[y][x]`, 1 = dark; log 10. -/
abbrev Grid := Vector (BitVec 177) 177

/-- What the host does at the block's ports (R60, R220). -/
inductive PortEvent where
  /-- a word presented on `CMD` -/
  | command (w : Word)
  /-- the reset input asserted -/
  | reset
  deriving DecidableEq, Repr

/-- The eleven fault causes of R201. `ILLEGAL_CMD` is raised by any illegal word; the others by the commands R201
lists. Each is a latched next state of the machine. -/
inductive Cause where
  | illegalCmd
  | gfDivZero
  | gfLogZero
  | rsBadCfg
  | rsNotCfg
  | rsIndex
  | synStale
  | gridBadSize
  | gridNotCfg
  | gridIndex
  | penStale
  deriving DecidableEq, Repr

/-- The storage arrays whose elements a command reaches by an index that depends on the state (R50). -/
inductive ArrayName where
  | cw
  | gen
  | syn
  | grid
  deriving DecidableEq, Repr

/-- Why a step of the MODEL stops with a fault. No state that a run reaches gives one (log 9): the spec's faults
are next states. Both are safe: the model stops where the spec's rules say nothing. -/
inductive Fault where
  /-- Raised by the RS and GRID commands in a state where `RS_K`, `RS_R` or `GRID_N` is outside the bounds of R26, R32
  and the command would reach an element that the array does not have (R50). Safe. -/
  | noSuchElement (a : ArrayName)
  /-- Raised by `PEN_SCORE` in a state with `GRID_VALID = 1` and `GRID_N = 0`, which R32 excludes: R169 would divide by
  zero. Safe. -/
  | emptyGrid
  deriving DecidableEq, Repr

/-- Why a step has no meaning. -/
inductive Refusal where
  /-- Raised by `exec`'s arm of an instruction that has no meaning yet; no arm raises it now. Safe. -/
  | notModelled (mnemonic : String)
  deriving DecidableEq, Repr

/-- The whole state of the block: the registers and arrays of R20, less the constant tables `EXP` and `LOG` (log 7),
and the port events the host has still to come with (log 1). -/
structure State where
  /-- `RESP` (R22) -/
  resp : Word
  /-- `FAULTED` (R23): false is the `RUN` state, true the `FAULTED` state -/
  faulted : Bool
  /-- `FAULT_CODE` (R24) -/
  faultCode : Byte
  /-- `FAULT_CMD` (R24) -/
  faultCmd : Word
  /-- `RS_K` (R26) -/
  rsK : Byte
  /-- `RS_R` (R26) -/
  rsR : Byte
  /-- `RS_VALID` (R26) -/
  rsValid : Bool
  /-- `CW[0 .. 254]` (R27) -/
  cw : Memory
  /-- `GEN[0 .. 30]` (R28) -/
  gen : Memory
  /-- `SYN[0 .. 29]` (R29) -/
  syn : Memory
  /-- `SYN_VALID` (R29) -/
  synValid : Bool
  /-- `SYN_ZERO` (R29) -/
  synZero : Bool
  /-- `GRID_N` (R32) -/
  gridN : Byte
  /-- `GRID_VALID` (R32) -/
  gridValid : Bool
  /-- `GRID` (R32) -/
  grid : Grid
  /-- `PEN1` (R33) -/
  pen1 : Word
  /-- `PEN2` (R33) -/
  pen2 : Word
  /-- `PEN3` (R33) -/
  pen3 : Word
  /-- `PEN4` (R33) -/
  pen4 : Word
  /-- `PEN_TOTAL` (R33) -/
  penTotal : Word
  /-- `PEN_VALID` (R33) -/
  penValid : Bool
  /-- `BEST_VALID` (R34) -/
  bestValid : Bool
  /-- `BEST_MASK` (R34) -/
  bestMask : BitVec 3
  /-- `BEST_PEN` (R34) -/
  bestPen : Word
  /-- the port events still to come, oldest first (the model's own, log 1) -/
  port : List PortEvent
  deriving DecidableEq, Repr

/-- Every module light. -/
def Grid.light : Grid := Vector.replicate 177 0#177

/-- The state after reset (R37, R220): all zero, state `RUN`; no port event pending. -/
def State.reset : State where
  resp := 0
  faulted := false
  faultCode := 0
  faultCmd := 0
  rsK := 0
  rsR := 0
  rsValid := false
  cw := []
  gen := []
  syn := []
  synValid := false
  synZero := false
  gridN := 0
  gridValid := false
  grid := Grid.light
  pen1 := 0
  pen2 := 0
  pen3 := 0
  pen4 := 0
  penTotal := 0
  penValid := false
  bestValid := false
  bestMask := 0
  bestPen := 0
  port := []

/-- What one step of this machine answers. -/
abbrev Outcome := Host.Outcome State Fault Refusal

end Sys2Proof.Machine
end

