-- ==== Sys2Proof/Machine/Ops.lean ====
section
/-! DEFINITION. The operations the meanings share: reading and writing the arrays, the response, taking a fault
(60_exceptions.md rule R204), the `FAULTED` state (R203), the checks, and reset (R220). -/

namespace Sys2Proof.Machine

/-! ### Byte arrays -/

/-- What an element that is not listed holds: the reset contents of `CW`, `GEN`, `SYN` (R37). -/
def Memory.unlisted : Byte := 0x00#8

/-- `A[i]` (R8, R52). -/
def Memory.read : Memory → Nat → Byte
  | [], _ => Memory.unlisted
  | (b, x) :: m, i => if b = i then x else Memory.read m i

/-- The array with nothing listed at `i`. -/
def Memory.erase (m : Memory) (i : Nat) : Memory := m.filter (fun c => c.1 != i)

/-- Lists `v` at `i`, before the first larger index. -/
def Memory.insert : Memory → Nat → Byte → Memory
  | [], i, v => [(i, v)]
  | (b, x) :: m, i, v => if i < b then (i, v) :: (b, x) :: m else (b, x) :: Memory.insert m i v

/-- `A[i] <- v` (R8, R52), in canonical form: the value an unlisted element holds is not listed. -/
def Memory.write (m : Memory) (i : Nat) (v : Byte) : Memory :=
  if v = Memory.unlisted then m.erase i else (m.erase i).insert i v

/-- `A[i], A[i+1], … <- vs`. -/
def Memory.writeFrom (m : Memory) (i : Nat) : List Byte → Memory
  | [] => m
  | v :: vs => Memory.writeFrom (m.write i v) (i + 1) vs

/-- `A[i], …, A[i+n−1]` as a list. -/
def Memory.slice (m : Memory) (i n : Nat) : List Byte := (List.range n).map (fun j => m.read (i + j))

/-- Indices strictly rising. -/
def Memory.rising : Memory → Bool
  | [] => true
  | [_] => true
  | a :: b :: m => decide (a.1 < b.1) && Memory.rising (b :: m)

/-- The canonical form of an array of `size` elements: indices strictly rising and below `size`, and no element
listed that holds what an unlisted one holds. -/
def Memory.wf (size : Nat) (m : Memory) : Bool :=
  m.rising && m.all (fun c => decide (c.1 < size) && c.2 != Memory.unlisted)

/-! ### The grid -/

/-- `GRID[y][x]` (R32): true is dark. Outside the array there is no module, and none is dark. -/
def Grid.module (g : Grid) (y x : Nat) : Bool :=
  match g[y]? with
  | some row => row.getLsbD x
  | none => false

/-- One row with the module at `x` set to `v`. -/
def rowPut (row : BitVec 177) (x : Nat) (v : Bool) : BitVec 177 :=
  if v then row ||| (1#177 <<< x) else row &&& ~~~(1#177 <<< x)

/-- `GRID[y][x] <- v` (R162). -/
def Grid.put (g : Grid) (y x : Nat) (v : Bool) : Grid :=
  match g[y]? with
  | some row => g.setIfInBounds y (rowPut row x v)
  | none => g

/-! ### The response -/

/-- `RESP <- v` (R22). -/
def State.setResp (s : State) (v : Word) : State := { s with resp := v }

/-- `zext_32` of a byte (R8). -/
def zext (b : Byte) : Word := b.zeroExtend 32

/-- The response of a command that faults or is ignored (R22). -/
def allOnes : Word := 0xFFFFFFFF#32

/-! ### Faults -/

/-- `FAULT_CODE` of each cause (R201). -/
def Cause.code : Cause → Byte
  | .illegalCmd => 0x01
  | .gfDivZero => 0x02
  | .gfLogZero => 0x03
  | .rsBadCfg => 0x04
  | .rsNotCfg => 0x05
  | .rsIndex => 0x06
  | .synStale => 0x07
  | .gridBadSize => 0x08
  | .gridNotCfg => 0x09
  | .gridIndex => 0x0A
  | .penStale => 0x0B

/-- Fault entry (R204): these four writes and nothing else. -/
def State.raise (s : State) (c : Cause) (w : Word) : State :=
  { s with faulted := true, faultCode := c.code, faultCmd := w, resp := allOnes }

/-- `raise Fault(c)` by the command `i`, whose word is `encode i` (log 5). -/
def takeFault (c : Cause) (i : Instr) (s : State) : Outcome := .next (s.raise c (encode i))

/-- An ignored word in the `FAULTED` state (R203). -/
def State.ignore (s : State) : State := s.setResp allOnes

/-- A word that is no command (R75): illegal in `RUN`, ignored in `FAULTED`. -/
def illegalWord (w : Word) (s : State) : Outcome :=
  if s.faulted then .next s.ignore else .next (s.raise .illegalCmd w)

/-- R203: 22 of the commands execute in the `RUN` state only. -/
def whenRunning (s : State) (k : Outcome) : Outcome := if s.faulted then .next s.ignore else k

/-- One check of a command (R72 step 4): if it fails the command raises its fault, else it goes on. -/
def require (p : Prop) [Decidable p] (c : Cause) (i : Instr) (s : State) (k : Outcome) : Outcome :=
  if p then k else takeFault c i s

/-- Elements of each array along one index (R50). -/
def ArrayName.size : ArrayName → Nat
  | .cw => 255
  | .gen => 31
  | .syn => 30
  | .grid => 177

/-- The elements `0 .. n−1` of an array are about to be reached: they must exist (R50; log 9). -/
def needElements (a : ArrayName) (n : Nat) (k : Outcome) : Outcome :=
  if n ≤ a.size then k else .fault (.noSuchElement a)

/-! ### Reset -/

/-- Reset (R220, R194): every register and array at its value of R37. The host's pending port events are not state
of the block and stay (log 2). -/
def State.hardReset (s : State) : State := { State.reset with port := s.port }

end Sys2Proof.Machine
end

