-- ==== Sys2Proof/Machine/Flags.lean ====
section
/-! DEFINITION. The seven flags (10_state.md rule R25): the `STATUS` view, and the flag writes commands share. -/

namespace Sys2Proof.Machine

/-- A flag at a bit of `STATUS`. -/
def flagAt (b : Bool) (bit : Nat) : Word := if b then 1#32 <<< bit else 0#32

/-- `STATUS` (R25): `FAULT_CODE` in 15:8, the flags in 6:0, bits 7 and 31:16 zero. -/
def State.status (s : State) : Word :=
  (zext s.faultCode <<< 8) ||| flagAt s.bestValid 6 ||| flagAt s.penValid 5 ||| flagAt s.gridValid 4 |||
    flagAt s.synZero 3 ||| flagAt s.synValid 2 ||| flagAt s.rsValid 1 ||| flagAt s.faulted 0

/-- The buffer changed: `SYN_VALID <- 0; SYN_ZERO <- 0` (R122, R125). -/
def State.staleSyndromes (s : State) : State := { s with synValid := false, synZero := false }

/-- The grid changed: `PEN_VALID <- 0` (R162). -/
def State.stalePenalty (s : State) : State := { s with penValid := false }

end Sys2Proof.Machine
end

