-- ==== Sys2Proof/Machine/Bch.lean ====
section
/-! DEFINITION. The BCH checksum unit (42_bch_checksum.md): binary polynomial remainder and the commands `BCH_FMT`,
`BCH_VER`. The unit has no state (R31). -/

namespace Sys2Proof.Machine

/-- The bit length of a number (R140). -/
def bitLength (v : Nat) : Nat := if v = 0 then 0 else v.log2 + 1

/-- R140's loop over the bits `m + n − 1` down to `m`. -/
def bchLoop (g m : Nat) : Nat → Nat → Nat
  | 0, t => t
  | n + 1, t => bchLoop g m n (if t.testBit (m + n) then t ^^^ (g <<< n) else t)

/-- `bch_rem(v, g, m)` (R140). -/
def bchRem (v g m : Nat) : Nat := bchLoop g m (bitLength v - m) v

/-- `raw` of R141: payload in 14:10, check bits in 9:0. -/
def formatRaw (d : Nat) : Nat := (d <<< 10) ||| bchRem (d <<< 10) Config.g15 10

/-- The format word (R141). -/
def formatWord (d : Nat) : Nat := formatRaw d ^^^ Config.g15Mask

/-- The version word (R144). -/
def versionWord (v : Nat) : Nat := (v <<< 12) ||| bchRem (v <<< 12) Config.g18 12

/-- `BCH_FMT d` (R142). -/
def execBchFmt (d : BitVec 5) (s : State) : Outcome :=
  whenRunning s (.next (s.setResp (BitVec.ofNat 32 (formatWord d.toNat))))

/-- `BCH_VER v` (R145). -/
def execBchVer (v : BitVec 6) (s : State) : Outcome :=
  whenRunning s (.next (s.setResp (BitVec.ofNat 32 (versionWord v.toNat))))

end Sys2Proof.Machine
end

