-- ==== Sys2Proof/Machine/Galois.lean ====
section
/-! DEFINITION. GF(256) arithmetic (40_gf_arithmetic.md) and the commands `GF_MUL`, `GF_DIV`, `GF_EXP`, `GF_LOG`. -/

namespace Sys2Proof.Machine

/-- The rows of the constant table `EXP` as R101 prints them: row `h` holds `EXP[16h] … EXP[16h+15]`, first entry in
the most significant byte. -/
def expRows : List (BitVec 128) :=
  [0x01020408102040801D3A74E8CD871326#128, 0x4C982D5AB475EAC98F03060C183060C0#128,
   0x9D274E9C254A94356AD4B577EEC19F23#128, 0x468C050A142850A05DBA69D2B96FDEA1#128,
   0x5FBE61C2992F5EBC65CA890F1E3C78F0#128, 0xFDE7D3BB6BD6B17FFEE1DFA35BB671E2#128,
   0xD9AF4386112244880D1A3468D0BD67CE#128, 0x811F3E7CF8EDC7933B76ECC5973366CC#128,
   0x85172E5CB86DDAA94F9E214284152A54#128, 0xA84D9A2952A455AA49923972E4D5B773#128,
   0xE6D1BF63C6913F7EFCE5D7B37BF6F1FF#128, 0xE3DBAB4B963162C495376EDCA557AE41#128,
   0x82193264C88D070E1C3870E0DDA753A6#128, 0x51A259B279F2F9EFC39B2B56AC458A09#128,
   0x122448903D7AF4F5F7F3FBEBCB8B0B16#128, 0x2C58B07DFAE9CF831B366CD8AD478E01#128]

/-- The rows of the constant table `LOG` as R102 prints them. The byte printed `--`, for `LOG[0]`, which does not
exist, is 0x00 (92 D7, 93 U9; log 8); nothing below reads it. -/
def logRows : List (BitVec 128) :=
  [0x0000011902321AC603DF33EE1B68C74B#128, 0x0464E00E348DEF811CC169F8C8084C71#128,
   0x058A652FE1240F2135938EDAF0128245#128, 0x1DB5C27D6A27F9B9C99A09784DE472A6#128,
   0x06BF8B6266DD30FDE29825B310912288#128, 0x36D094CE8F96DBBDF1D2135C83384640#128,
   0x1E42B6A3C3487E6E6B3A2854FA85BA3D#128, 0xCA5E9B9F0A15792B4ED4E5AC73F3A757#128,
   0x0770C0F78C80630D674ADEED31C5FE18#128, 0xE3A5997726B8B47C114492D92320892E#128,
   0x373FD15B95BCCFCD908797B2DCFCBE61#128, 0xF256D3AB142A5D9E843C3953476D41A2#128,
   0x1F2D43D8B77BA476C41749EC7F0C6FF6#128, 0x6CA13B52299D55AAFB6086B1BBCC3E5A#128,
   0xCB595FB09CA9A0510BF516EB7A752CD7#128, 0x4FAED5E9E6E7ADE874D6F4EAA85058AF#128]

/-- The byte at index `i` of a table printed in rows of 16. -/
def romByte (rows : List (BitVec 128)) (i : Nat) : Byte :=
  match rows[i / 16]? with
  | some row => row.extractLsb' (8 * (15 - i % 16)) 8
  | none => 0x00#8

/-- `EXP[i]` (R101), for `i` from 0 to 255. -/
def expTable (i : Nat) : Byte := romByte expRows i

/-- `LOG[a]` (R102), for `a` from 1 to 255, as a number from 0 to 254. -/
def logTable (a : Byte) : Nat := (romByte logRows a.toNat).toNat

/-- `gf_mul(a, b)` (R104). -/
def gfMul (a b : Byte) : Byte :=
  if a = 0x00#8 ∨ b = 0x00#8 then 0x00#8 else expTable ((logTable a + logTable b) % 255)

/-- `gf_div(a, b)` (R105), for `b ≠ 0`. -/
def gfDiv (a b : Byte) : Byte :=
  if a = 0x00#8 then 0x00#8 else expTable ((logTable a + 255 - logTable b) % 255)

/-- `GF_MUL a, b` (R107). -/
def execGfMul (a b : Byte) (s : State) : Outcome :=
  whenRunning s (.next (s.setResp (zext (gfMul a b))))

/-- `GF_DIV a, b` (R108). -/
def execGfDiv (a b : Byte) (s : State) : Outcome :=
  whenRunning s <|
  require (b ≠ 0x00#8) .gfDivZero (.gfDiv a b) s <|
  .next (s.setResp (zext (gfDiv a b)))

/-- `GF_EXP i` (R109). -/
def execGfExp (i : Byte) (s : State) : Outcome :=
  whenRunning s (.next (s.setResp (zext (expTable i.toNat))))

/-- `GF_LOG a` (R110). -/
def execGfLog (a : Byte) (s : State) : Outcome :=
  whenRunning s <|
  require (a ≠ 0x00#8) .gfLogZero (.gfLog a) s <|
  .next (s.setResp (BitVec.ofNat 32 (logTable a)))

end Sys2Proof.Machine
end

