-- ==== Sys2Proof/Machine/Operands.lean ====
section
/-! DEFINITION. The operand forms (30_encoding.md rules R71, R74) as indices: the only addressing mode is the
direct index, used as it stands (20_memory.md rule R51), and these are the bounds each command sets. -/

namespace Sys2Proof.Machine

/-- The number of bytes of the current codeword, `RS_K + RS_R`, an ordinary integer sum (R121, R122). -/
def State.codewordLen (s : State) : Nat := s.rsK.toNat + s.rsR.toNat

/-- `RS_WR`, `RS_RD` (R122, R123): `idx < RS_K + RS_R`. -/
def State.cwIndexOk (s : State) (idx : Byte) : Bool := decide (idx.toNat < s.codewordLen)

/-- `RS_RDSYN` (R130): `j < RS_R`. -/
def State.synIndexOk (s : State) (j : Byte) : Bool := decide (j.toNat < s.rsR.toNat)

/-- `RS_RDGEN` (R131): `i ≤ RS_R`. -/
def State.genIndexOk (s : State) (i : Byte) : Bool := decide (i.toNat ≤ s.rsR.toNat)

/-- `GRID_WR`, `GRID_RD` (R162, R163): `row < GRID_N` and `col < GRID_N`. -/
def State.gridIndexOk (s : State) (row col : Byte) : Bool :=
  decide (row.toNat < s.gridN.toNat) && decide (col.toNat < s.gridN.toNat)

/-- `RS_CFG` (R121): `1 ≤ r ≤ R_MAX` and `k + r ≤ CW_LEN`, the sum not an 8-bit one. -/
def rsCfgOk (k r : Byte) : Bool :=
  decide (1 ≤ r.toNat) && decide (r.toNat ≤ Config.rMax) && decide (k.toNat + r.toNat ≤ Config.cwLen)

/-- `GRID_CFG` (R161): `1 ≤ n ≤ 177`. -/
def gridCfgOk (n : Byte) : Bool := decide (Config.nMin ≤ n.toNat) && decide (n.toNat ≤ Config.nMax)

/-- `PEN_RD` (R171): `sel ≤ 4`. -/
def penRdOk (sel : BitVec 3) : Bool := decide (sel.toNat ≤ 4)

/-- `GRID_WR`'s value operand (R162): 1 is dark. -/
def moduleOf (v : BitVec 1) : Bool := v == 1#1

end Sys2Proof.Machine
end

