-- ==== Sys2Proof/Machine/Penalty.lean ====
section
/-! DEFINITION. The penalty accumulator unit and the mask selector (43_penalty.md): the four rules and the commands
`GRID_CFG`, `GRID_WR`, `GRID_RD`, `PEN_SCORE`, `PEN_RD`, `SEL_CLR`, `SEL_UPD`, `SEL_RD`. -/

namespace Sys2Proof.Machine

/-! ### Lines -/

/-- Row `y`, read left to right (R160). -/
def Grid.row (g : Grid) (n y : Nat) : List Bool := (List.range n).map (fun x => g.module y x)

/-- Column `x`, read top to bottom (R160). -/
def Grid.column (g : Grid) (n x : Nat) : List Bool := (List.range n).map (fun y => g.module y x)

/-- The `2N` lines (R160). -/
def Grid.lines (g : Grid) (n : Nat) : List (List Bool) :=
  (List.range n).map (g.row n) ++ (List.range n).map (g.column n)

/-! ### Rule 1, runs (R164, R166) -/

/-- What a run of length `l` scores (R166). -/
def runScore (l : Nat) : Nat := if Config.w1From ≤ l then Config.w1Base + (l - Config.w1From) else 0

/-- R166's pass over the rest of a line, in a run of colour `c` that has `run` modules so far; the end of the line
flushes the last run. -/
def runPass (c : Bool) (run : Nat) : List Bool → Nat
  | [] => runScore run
  | m :: line => if m = c then runPass c (run + 1) line else runScore run + runPass m 1 line

/-- The runs of one line (R166). -/
def lineRuns : List Bool → Nat
  | [] => 0
  | m :: line => runPass m 1 line

/-- `rule1(G, N)` (R166). -/
def rule1 (g : Grid) (n : Nat) : Nat := ((g.lines n).map lineRuns).sum

/-! ### Rule 2, blocks (R167) -/

/-- The 2 × 2 window at row `y`, column `x` has one colour. -/
def Grid.block (g : Grid) (y x : Nat) : Bool :=
  g.module y x == g.module y (x + 1) && g.module y x == g.module (y + 1) x &&
    g.module y x == g.module (y + 1) (x + 1)

/-- `rule2(G, N)` (R167). -/
def rule2 (g : Grid) (n : Nat) : Nat :=
  Config.w2 * ((List.range (n - 1)).map (fun y => (List.range (n - 1)).countP (fun x => g.block y x))).sum

/-! ### Rule 3, finder-like patterns (R168) -/

/-- Window `A` of R168: the core, then four light. -/
def windowA : List Bool := [true, false, true, true, true, false, true, false, false, false, false]

/-- Window `B` of R168: four light, then the core. -/
def windowB : List Bool := [false, false, false, false, true, false, true, true, true, false, true]

/-- How often the window stands in a line, at any position that leaves it wholly inside. -/
def countWindow (w : List Bool) : List Bool → Nat
  | [] => 0
  | m :: line => (if w.isPrefixOf (m :: line) then 1 else 0) + countWindow w line

/-- `rule3(G, N)` (R168). -/
def rule3 (g : Grid) (n : Nat) : Nat :=
  Config.w3 * (((g.lines n).map (countWindow windowA)).sum + ((g.lines n).map (countWindow windowB)).sum)

/-! ### Rule 4, balance (R169) -/

/-- `D`, the number of dark modules (R169). -/
def Grid.darkCount (g : Grid) (n : Nat) : Nat := ((List.range n).map (fun y => (g.row n y).count true)).sum

/-- R169's formula for `D` dark modules of `T`: the deviation from 50 % in steps of five points, exactly. -/
def balance (dark total : Nat) : Nat :=
  Config.w4 * ((((100 / Config.w4Step * dark : Nat) : Int) - ((50 / Config.w4Step * total : Nat) : Int)).natAbs / total)

/-- `rule4(G, N)` (R169). -/
def rule4 (g : Grid) (n : Nat) : Nat := balance (g.darkCount n) (n * n)

/-! ### State updates -/

/-- R161's writes but `RESP`. -/
def State.configureGrid (s : State) (n : Byte) : State :=
  { s with gridN := n, grid := Grid.light, pen1 := 0, pen2 := 0, pen3 := 0, pen4 := 0, penTotal := 0,
           gridValid := true, penValid := false }

/-- `GRID[row][col] <- v`. -/
def State.writeModule (s : State) (row col : Nat) (v : Bool) : State := { s with grid := s.grid.put row col v }

/-- R165's writes but `RESP`: the four scores and their 32-bit sum (R170). -/
def State.storeScores (s : State) : State :=
  let n := s.gridN.toNat
  let p1 := BitVec.ofNat 32 (rule1 s.grid n)
  let p2 := BitVec.ofNat 32 (rule2 s.grid n)
  let p3 := BitVec.ofNat 32 (rule3 s.grid n)
  let p4 := BitVec.ofNat 32 (rule4 s.grid n)
  { s with pen1 := p1, pen2 := p2, pen3 := p3, pen4 := p4, penTotal := p1 + p2 + p3 + p4, penValid := true }

/-- `PEN_RD`'s choice (R171). -/
def State.penalty (s : State) (sel : BitVec 3) : Word :=
  if sel = 0#3 then s.penTotal else if sel = 1#3 then s.pen1 else if sel = 2#3 then s.pen2
  else if sel = 3#3 then s.pen3 else s.pen4

/-- R172's writes but `RESP`. -/
def State.clearBest (s : State) : State := { s with bestValid := false, bestMask := 0, bestPen := 0 }

/-- R173's condition: the candidate `m` with the present total replaces the best so far. -/
def State.improves (s : State) (m : BitVec 3) : Bool :=
  !s.bestValid || decide (s.penTotal.toNat < s.bestPen.toNat) ||
    (s.penTotal == s.bestPen && decide (m.toNat < s.bestMask.toNat))

/-- R173's writes when the candidate is taken, but `RESP`. -/
def State.takeBest (s : State) (m : BitVec 3) : State :=
  { s with bestValid := true, bestMask := m, bestPen := s.penTotal }

/-- R174's response: valid in 31, mask in 26:24, the total's low 24 bits in 23:0. -/
def State.bestWord (s : State) : Word :=
  flagAt s.bestValid 31 ||| (s.bestMask.zeroExtend 32 <<< 24) ||| (s.bestPen.extractLsb' 0 24).zeroExtend 32

/-! ### Commands -/

/-- `GRID_CFG n` (R161). -/
def execGridCfg (n : Byte) (s : State) : Outcome :=
  whenRunning s <|
  require (gridCfgOk n) .gridBadSize (.gridCfg n) s <|
  .next ((s.configureGrid n).setResp 0)

/-- `GRID_WR row, col, v` (R162). -/
def execGridWr (row col : Byte) (v : BitVec 1) (s : State) : Outcome :=
  whenRunning s <|
  require s.gridValid .gridNotCfg (.gridWr row col v) s <|
  require (s.gridIndexOk row col) .gridIndex (.gridWr row col v) s <|
  needElements .grid (max row.toNat col.toNat + 1) <|
  .next ((s.writeModule row.toNat col.toNat (moduleOf v)).stalePenalty.setResp 0)

/-- `GRID_RD row, col` (R163). -/
def execGridRd (row col : Byte) (s : State) : Outcome :=
  whenRunning s <|
  require s.gridValid .gridNotCfg (.gridRd row col) s <|
  require (s.gridIndexOk row col) .gridIndex (.gridRd row col) s <|
  needElements .grid (max row.toNat col.toNat + 1) <|
  .next (s.setResp (flagAt (s.grid.module row.toNat col.toNat) 0))

/-- `PEN_SCORE` (R165). A grid of no modules, which R32 excludes, has no dark share: log 9. -/
def execPenScore (s : State) : Outcome :=
  whenRunning s <|
  require s.gridValid .gridNotCfg .penScore s <|
  needElements .grid s.gridN.toNat <|
  if s.gridN = 0 then .fault .emptyGrid else
  .next (s.storeScores.setResp s.storeScores.penTotal)

/-- `PEN_RD sel` (R171). -/
def execPenRd (sel : BitVec 3) (s : State) : Outcome :=
  whenRunning s <|
  require (penRdOk sel) .illegalCmd (.penRd sel) s <|
  require s.penValid .penStale (.penRd sel) s <|
  .next (s.setResp (s.penalty sel))

/-- `SEL_CLR` (R172). -/
def execSelClr (s : State) : Outcome :=
  whenRunning s (.next (s.clearBest.setResp 0))

/-- `SEL_UPD m` (R173). -/
def execSelUpd (m : BitVec 3) (s : State) : Outcome :=
  whenRunning s <|
  require s.penValid .penStale (.selUpd m) s <|
  .next (if s.improves m then (s.takeBest m).setResp 1 else s.setResp 0)

/-- `SEL_RD` (R174). -/
def execSelRd (s : State) : Outcome :=
  whenRunning s (.next (s.setResp s.bestWord))

end Sys2Proof.Machine
end

