-- ==== Sys2Proof/Machine/ReedSolomon.lean ====
section
/-! DEFINITION. The Reed–Solomon unit (41_reed_solomon.md): the generator polynomial, the division, the syndromes,
and the commands `RS_CFG`, `RS_WR`, `RS_RD`, `RS_ENC`, `RS_SYND`, `RS_RDSYN`, `RS_RDGEN`. A polynomial is the list of
its coefficients, highest degree first, as in R120, R124, R128. -/

namespace Sys2Proof.Machine

/-- Addition of coefficient lists, position by position (R103). -/
def xorBytes (p q : List Byte) : List Byte := List.zipWith (· ^^^ ·) p q

/-- R120's inner loop: `g` multiplied by `(x + c)`. -/
def mulLinear (g : List Byte) (c : Byte) : List Byte :=
  xorBytes (g ++ [0x00#8]) (0x00#8 :: g.map (fun x => gfMul x c))

/-- `G_r[0 .. r]` (R120). -/
def genPoly : Nat → List Byte
  | 0 => [0x01#8]
  | i + 1 => mulLinear (genPoly i) (expTable i)

/-- One pass of R125's outer loop: the data byte `d` enters the remainder; `tail` is `GEN[1 .. r]`. -/
def encStep (tail rem : List Byte) (d : Byte) : List Byte :=
  let f := d ^^^ rem.headD 0x00#8
  xorBytes (rem.tail ++ [0x00#8]) (tail.map (fun g => gfMul f g))

/-- `rem[0 .. r−1]` at the end of R125's loop. -/
def parityBytes (tail data : List Byte) : List Byte :=
  data.foldl (encStep tail) (List.replicate tail.length 0x00#8)

/-- R129's inner loop: Horner's rule at `x`. -/
def horner (x : Byte) (bytes : List Byte) : Byte := bytes.foldl (fun acc c => gfMul acc x ^^^ c) 0x00#8

/-- `SYN[0 .. r−1]` as R129 computes them from the codeword. -/
def syndromes (r : Nat) (codeword : List Byte) : List Byte :=
  (List.range r).map (fun j => horner (expTable j) codeword)

/-- The data bytes `CW[0 .. RS_K−1]` (R27). -/
def State.dataBytes (s : State) : List Byte := s.cw.slice 0 s.rsK.toNat

/-- The codeword `CW[0 .. RS_K+RS_R−1]` (R27). -/
def State.codeword (s : State) : List Byte := s.cw.slice 0 s.codewordLen

/-- `GEN[1 .. RS_R]`, the generator polynomial less its leading coefficient 1 (R28). -/
def State.genTail (s : State) : List Byte := s.gen.slice 1 s.rsR.toNat

/-- R121's writes but `RESP`. -/
def State.configureRs (s : State) (k r : Byte) : State :=
  { s with rsK := k, rsR := r, cw := [], syn := [], gen := Memory.writeFrom [] 0 (genPoly r.toNat),
           rsValid := true, synValid := false, synZero := false }

/-- `CW[i] <- v`. -/
def State.writeCw (s : State) (i : Nat) (v : Byte) : State := { s with cw := s.cw.write i v }

/-- R125's writes of the parity bytes. -/
def State.storeParity (s : State) : State :=
  { s with cw := s.cw.writeFrom s.rsK.toNat (parityBytes s.genTail s.dataBytes) }

/-- R129's `z`: every syndrome is zero. -/
def State.codewordOk (s : State) : Bool := (syndromes s.rsR.toNat s.codeword).all (· == 0x00#8)

/-- R129's writes but `RESP`. -/
def State.storeSyndromes (s : State) : State :=
  { s with syn := s.syn.writeFrom 0 (syndromes s.rsR.toNat s.codeword), synValid := true, synZero := s.codewordOk }

/-- `RS_CFG k, r` (R121). -/
def execRsCfg (k r : Byte) (s : State) : Outcome :=
  whenRunning s <|
  require (rsCfgOk k r) .rsBadCfg (.rsCfg k r) s <|
  .next ((s.configureRs k r).setResp 0)

/-- `RS_WR idx, byte` (R122). -/
def execRsWr (idx byte : Byte) (s : State) : Outcome :=
  whenRunning s <|
  require s.rsValid .rsNotCfg (.rsWr idx byte) s <|
  require (s.cwIndexOk idx) .rsIndex (.rsWr idx byte) s <|
  needElements .cw (idx.toNat + 1) <|
  .next ((s.writeCw idx.toNat byte).staleSyndromes.setResp 0)

/-- `RS_RD idx` (R123). -/
def execRsRd (idx : Byte) (s : State) : Outcome :=
  whenRunning s <|
  require s.rsValid .rsNotCfg (.rsRd idx) s <|
  require (s.cwIndexOk idx) .rsIndex (.rsRd idx) s <|
  needElements .cw (idx.toNat + 1) <|
  .next (s.setResp (zext (s.cw.read idx.toNat)))

/-- `RS_ENC` (R125). -/
def execRsEnc (s : State) : Outcome :=
  whenRunning s <|
  require s.rsValid .rsNotCfg .rsEnc s <|
  needElements .cw s.codewordLen <|
  needElements .gen (s.rsR.toNat + 1) <|
  .next (s.storeParity.staleSyndromes.setResp 0)

/-- `RS_SYND` (R129). -/
def execRsSynd (s : State) : Outcome :=
  whenRunning s <|
  require s.rsValid .rsNotCfg .rsSynd s <|
  needElements .cw s.codewordLen <|
  needElements .syn s.rsR.toNat <|
  .next (s.storeSyndromes.setResp (flagAt s.codewordOk 0))

/-- `RS_RDSYN j` (R130). -/
def execRsRdsyn (j : Byte) (s : State) : Outcome :=
  whenRunning s <|
  require s.rsValid .rsNotCfg (.rsRdsyn j) s <|
  require s.synValid .synStale (.rsRdsyn j) s <|
  require (s.synIndexOk j) .rsIndex (.rsRdsyn j) s <|
  needElements .syn (j.toNat + 1) <|
  .next (s.setResp (zext (s.syn.read j.toNat)))

/-- `RS_RDGEN i` (R131). -/
def execRsRdgen (i : Byte) (s : State) : Outcome :=
  whenRunning s <|
  require s.rsValid .rsNotCfg (.rsRdgen i) s <|
  require (s.genIndexOk i) .rsIndex (.rsRdgen i) s <|
  needElements .gen (i.toNat + 1) <|
  .next (s.setResp (zext (s.gen.read i.toNat)))

end Sys2Proof.Machine
end

