-- ==== Sys2Proof/Machine/System.lean ====
section
/-! DEFINITION. The system commands (44_system.md): `NOP`, which executes in `RUN` only, and the four that execute in
both states (R195). -/

namespace Sys2Proof.Machine

/-- `NOP` (R190). -/
def execNop (s : State) : Outcome := whenRunning s (.next (s.setResp 0))

/-- `STAT_RD` (R191). -/
def execStatRd (s : State) : Outcome := .next (s.setResp s.status)

/-- `ID_RD` (R192). -/
def execIdRd (s : State) : Outcome := .next (s.setResp Config.idValue)

/-- `FCMD_RD` (R193). -/
def execFcmdRd (s : State) : Outcome := .next (s.setResp s.faultCmd)

/-- `SRESET` (R194). -/
def execSreset (s : State) : Outcome := .next s.hardReset

end Sys2Proof.Machine
end

