-- ==== Sys2Proof/Machine/Dispatch.lean ====
section
/-! DEFINITION. The dispatch of R72 steps 4 and 5: one arm per command, each a call of its meaning. -/

namespace Sys2Proof.Machine

def exec (i : Instr) (s : State) : Host.Outcome State Fault Refusal :=
  match i with
  | .nop => Sys2Proof.Machine.execNop s
  | .gfMul a b => Sys2Proof.Machine.execGfMul a b s
  | .gfDiv a b => Sys2Proof.Machine.execGfDiv a b s
  | .gfExp j => Sys2Proof.Machine.execGfExp j s
  | .gfLog a => Sys2Proof.Machine.execGfLog a s
  | .rsCfg k r => Sys2Proof.Machine.execRsCfg k r s
  | .rsWr idx byte => Sys2Proof.Machine.execRsWr idx byte s
  | .rsRd idx => Sys2Proof.Machine.execRsRd idx s
  | .rsEnc => Sys2Proof.Machine.execRsEnc s
  | .rsSynd => Sys2Proof.Machine.execRsSynd s
  | .rsRdsyn j => Sys2Proof.Machine.execRsRdsyn j s
  | .rsRdgen j => Sys2Proof.Machine.execRsRdgen j s
  | .bchFmt d => Sys2Proof.Machine.execBchFmt d s
  | .bchVer v => Sys2Proof.Machine.execBchVer v s
  | .gridCfg n => Sys2Proof.Machine.execGridCfg n s
  | .gridWr row col v => Sys2Proof.Machine.execGridWr row col v s
  | .gridRd row col => Sys2Proof.Machine.execGridRd row col s
  | .penScore => Sys2Proof.Machine.execPenScore s
  | .penRd sel => Sys2Proof.Machine.execPenRd sel s
  | .selClr => Sys2Proof.Machine.execSelClr s
  | .selUpd m => Sys2Proof.Machine.execSelUpd m s
  | .selRd => Sys2Proof.Machine.execSelRd s
  | .statRd => Sys2Proof.Machine.execStatRd s
  | .idRd => Sys2Proof.Machine.execIdRd s
  | .fcmdRd => Sys2Proof.Machine.execFcmdRd s
  | .sreset => Sys2Proof.Machine.execSreset s

end Sys2Proof.Machine
end

