-- ==== Sys2Proof/Machine/Execute.lean ====
section
/-! DEFINITION. One command word (R72) and one port event (R60, R220). -/

namespace Sys2Proof.Machine

/-- `exec(S, w)` of R11, R72: decode the word, then the command's meaning; a word that is no command is illegal
(or ignored while `FAULTED`, which each meaning and `illegalWord` look at themselves: log 4). -/
def execWord (w : Word) (s : State) : Outcome :=
  match decode w with
  | .ok i => exec i s
  | .error _ => illegalWord w s

/-- What the block does on one event at its ports. -/
def onEvent (e : PortEvent) (s : State) : Outcome :=
  match e with
  | .command w => execWord w s
  | .reset => .next s.hardReset

/-- The state with `rest` as the port events still to come. -/
def State.withPort (s : State) (rest : List PortEvent) : State := { s with port := rest }

end Sys2Proof.Machine
end

