-- ==== Sys2Proof/Machine/Step.lean ====
section
/-! DEFINITION. The step: the block takes the oldest pending port event and does what it asks, whole (R58). With no
event pending the block is idle and holds its state (R215). -/

namespace Sys2Proof.Machine

/-- One step of the machine (log 1). -/
def step (s : State) : Host.Outcome State Fault Refusal :=
  match s.port with
  | [] => .next s
  | e :: rest => onEvent e (s.withPort rest)

/-- `s` with the table word presented on `CMD` next, ahead of the other pending events (log 3). -/
def State.withFetchWord (s : State) (nbits w : Nat) : State := s.withPort (.command (tableWord nbits w) :: s.port)

end Sys2Proof.Machine
end

