-- ==== Sys2Proof/Machine/Assembler.lean ====
section
/-! DEFINITION. The assembler's notation (30_encoding.md rules R78, R79) and the payload of a format word (42_bch R143):
host-side, no part of a step. A line gives the list of commands it stands for, or none where an assembler rejects it.
Blanks, letter case of hexadecimal digits and empty lines: log 14. -/

namespace Sys2Proof.Machine

/-- The mnemonic of R73. -/
def mnemonicOf : Instr → String
  | .nop => "NOP"
  | .gfMul _ _ => "GF_MUL"
  | .gfDiv _ _ => "GF_DIV"
  | .gfExp _ => "GF_EXP"
  | .gfLog _ => "GF_LOG"
  | .rsCfg _ _ => "RS_CFG"
  | .rsWr _ _ => "RS_WR"
  | .rsRd _ => "RS_RD"
  | .rsEnc => "RS_ENC"
  | .rsSynd => "RS_SYND"
  | .rsRdsyn _ => "RS_RDSYN"
  | .rsRdgen _ => "RS_RDGEN"
  | .bchFmt _ => "BCH_FMT"
  | .bchVer _ => "BCH_VER"
  | .gridCfg _ => "GRID_CFG"
  | .gridWr _ _ _ => "GRID_WR"
  | .gridRd _ _ => "GRID_RD"
  | .penScore => "PEN_SCORE"
  | .penRd _ => "PEN_RD"
  | .selClr => "SEL_CLR"
  | .selUpd _ => "SEL_UPD"
  | .selRd => "SEL_RD"
  | .statRd => "STAT_RD"
  | .idRd => "ID_RD"
  | .fcmdRd => "FCMD_RD"
  | .sreset => "SRESET"

/-- The operands in the order of R73's column, which is R78's order. -/
def operandsOf : Instr → List Nat
  | .gfMul a b => [a.toNat, b.toNat]
  | .gfDiv a b => [a.toNat, b.toNat]
  | .gfExp i => [i.toNat]
  | .gfLog a => [a.toNat]
  | .rsCfg k r => [k.toNat, r.toNat]
  | .rsWr idx byte => [idx.toNat, byte.toNat]
  | .rsRd idx => [idx.toNat]
  | .rsRdsyn j => [j.toNat]
  | .rsRdgen i => [i.toNat]
  | .bchFmt d => [d.toNat]
  | .bchVer v => [v.toNat]
  | .gridCfg n => [n.toNat]
  | .gridWr row col v => [row.toNat, col.toNat, v.toNat]
  | .gridRd row col => [row.toNat, col.toNat]
  | .penRd sel => [sel.toNat]
  | .selUpd m => [m.toNat]
  | .nop => []
  | .rsEnc => []
  | .rsSynd => []
  | .penScore => []
  | .selClr => []
  | .selRd => []
  | .statRd => []
  | .idRd => []
  | .fcmdRd => []
  | .sreset => []

/-- An operand in a field of `n` bits: rejected where it does not fit, never truncated (R78). -/
def fit (n v : Nat) : Option (BitVec n) := if v < 2 ^ n then some (BitVec.ofNat n v) else none

/-- A command with one operand of `n` bits. -/
def oneOperand (n : Nat) (mk : BitVec n → Instr) : List Nat → Option Instr
  | [a] => (fit n a).map mk
  | _ => none

/-- A command with two byte operands. -/
def twoOperands (mk : Byte → Byte → Instr) : List Nat → Option Instr
  | [a, b] => do return mk (← fit 8 a) (← fit 8 b)
  | _ => none

/-- A command with no operand. -/
def noOperand (i : Instr) : List Nat → Option Instr
  | [] => some i
  | _ => none

/-- One real command from its mnemonic and its operands (R78). -/
def assemble (mnemonic : String) (ops : List Nat) : Option Instr :=
  if mnemonic = "NOP" then noOperand .nop ops
  else if mnemonic = "GF_MUL" then twoOperands .gfMul ops
  else if mnemonic = "GF_DIV" then twoOperands .gfDiv ops
  else if mnemonic = "GF_EXP" then oneOperand 8 .gfExp ops
  else if mnemonic = "GF_LOG" then oneOperand 8 .gfLog ops
  else if mnemonic = "RS_CFG" then twoOperands .rsCfg ops
  else if mnemonic = "RS_WR" then twoOperands .rsWr ops
  else if mnemonic = "RS_RD" then oneOperand 8 .rsRd ops
  else if mnemonic = "RS_ENC" then noOperand .rsEnc ops
  else if mnemonic = "RS_SYND" then noOperand .rsSynd ops
  else if mnemonic = "RS_RDSYN" then oneOperand 8 .rsRdsyn ops
  else if mnemonic = "RS_RDGEN" then oneOperand 8 .rsRdgen ops
  else if mnemonic = "BCH_FMT" then oneOperand 5 .bchFmt ops
  else if mnemonic = "BCH_VER" then oneOperand 6 .bchVer ops
  else if mnemonic = "GRID_CFG" then oneOperand 8 .gridCfg ops
  else if mnemonic = "GRID_WR" then
    match ops with
    | [row, col, v] => do return .gridWr (← fit 8 row) (← fit 8 col) (← fit 1 v)
    | _ => none
  else if mnemonic = "GRID_RD" then twoOperands .gridRd ops
  else if mnemonic = "PEN_SCORE" then noOperand .penScore ops
  else if mnemonic = "PEN_RD" then oneOperand 3 .penRd ops
  else if mnemonic = "SEL_CLR" then noOperand .selClr ops
  else if mnemonic = "SEL_UPD" then oneOperand 3 .selUpd ops
  else if mnemonic = "SEL_RD" then noOperand .selRd ops
  else if mnemonic = "STAT_RD" then noOperand .statRd ops
  else if mnemonic = "ID_RD" then noOperand .idRd ops
  else if mnemonic = "FCMD_RD" then noOperand .fcmdRd ops
  else if mnemonic = "SRESET" then noOperand .sreset ops
  else none

/-! ### Pseudo-commands (R79) -/

/-- `RS_WR i, b0; RS_WR i+1, b1; …`. -/
def rsLoadFrom (i : Nat) : List Byte → List Instr
  | [] => []
  | b :: bs => .rsWr (BitVec.ofNat 8 i) b :: rsLoadFrom (i + 1) bs

/-- `RS_LOAD b0, …, b(m−1)` (R79), for m ≤ 255. -/
def rsLoad (bytes : List Byte) : Option (List Instr) := if bytes.length ≤ 255 then some (rsLoadFrom 0 bytes) else none

/-- `GRID_WR y, x, 1` for each dark position of a row, from position `x` on. -/
def gridRowFrom (y : Byte) (x : Nat) : List Bool → List Instr
  | [] => []
  | m :: ms =>
    if m then .gridWr y (BitVec.ofNat 8 x) 1#1 :: gridRowFrom y (x + 1) ms else gridRowFrom y (x + 1) ms

/-- `GRID_ROW y, "s"` (R79): `s` has `GRID_N` modules, so at most 177 of them. -/
def gridRow (y : Byte) (modules : List Bool) : Option (List Instr) :=
  if modules.length ≤ 177 then some (gridRowFrom y 0 modules) else none

/-! ### The payload of a format word (R143), host side: `BCH_FMT` takes its five bits as given -/

/-- The error-correction levels of R143. -/
inductive EcLevel where
  | l
  | m
  | q
  | h
  deriving DecidableEq, Repr

/-- The two-bit level indicator (R143). -/
def EcLevel.indicator : EcLevel → BitVec 2
  | .l => 0b01#2
  | .m => 0b00#2
  | .q => 0b11#2
  | .h => 0b10#2

/-- The level in bits 4:3, the mask index in bits 2:0 (R143). -/
def formatPayload (level : EcLevel) (mask : BitVec 3) : BitVec 5 := level.indicator ++ mask

/-! ### Text -/

/-- The value of a digit in a base up to 16. -/
def digitValue (base : Nat) (c : Char) : Option Nat :=
  let v := if '0' ≤ c ∧ c ≤ '9' then c.toNat - '0'.toNat
    else if 'a' ≤ c ∧ c ≤ 'f' then c.toNat - 'a'.toNat + 10
    else if 'A' ≤ c ∧ c ≤ 'F' then c.toNat - 'A'.toNat + 10 else 16
  if v < base then some v else none

/-- Digits, most significant first, after the value read so far. -/
def digitsFrom (base acc : Nat) : List Char → Option Nat
  | [] => some acc
  | c :: cs => (digitValue base c).bind (fun v => digitsFrom base (acc * base + v) cs)

/-- A decimal or `0x` hexadecimal literal (R78). -/
def literal : List Char → Option Nat
  | [] => none
  | '0' :: 'x' :: c :: cs => digitsFrom 16 0 (c :: cs)
  | c :: cs => digitsFrom 10 0 (c :: cs)

/-- Without blanks at either end. -/
def trimBlanks (cs : List Char) : List Char :=
  ((cs.dropWhile Char.isWhitespace).reverse.dropWhile Char.isWhitespace).reverse

/-- The pieces between separators. -/
def splitAt (sep : Char) : List Char → List (List Char)
  | [] => [[]]
  | c :: cs =>
    match splitAt sep cs with
    | [] => [[c]]
    | p :: ps => if c = sep then [] :: p :: ps else (c :: p) :: ps

/-- The operand pieces of a line: none where nothing follows the mnemonic. -/
def operandPieces (cs : List Char) : List (List Char) :=
  if trimBlanks cs = [] then [] else (splitAt ',' cs).map trimBlanks

/-- The modules of a `GRID_ROW` string, `X` dark and `.` light. -/
def moduleString : List Char → Option (List Bool)
  | '"' :: cs =>
    match cs.reverse with
    | '"' :: body => body.reverse.mapM (fun c => if c = 'X' then some true else if c = '.' then some false else none)
    | _ => none
  | _ => none

/-- One line (R78, R79): a comment or an empty line stands for no command, a pseudo-command for its expansion. -/
def assembleLine (line : String) : Option (List Instr) :=
  let text := trimBlanks (line.toList.takeWhile (· ≠ ';'))
  let mnemonic := String.ofList (text.takeWhile (fun c => !c.isWhitespace))
  let pieces := operandPieces (text.dropWhile (fun c => !c.isWhitespace))
  if text = [] then some []
  else if mnemonic = "RS_LOAD" then do
    rsLoad (← pieces.mapM (fun p => (literal p).bind (fit 8)))
  else if mnemonic = "GRID_ROW" then
    match pieces with
    | [y, s] => do gridRow (← (literal y).bind (fit 8)) (← moduleString s)
    | _ => none
  else do return [← assemble mnemonic (← pieces.mapM literal)]

/-- A program: the command words of its lines, in order. -/
def assembleProgram : List String → Option (List Word)
  | [] => some []
  | line :: lines => do return (← assembleLine line).map encode ++ (← assembleProgram lines)

end Sys2Proof.Machine
end

