-- ==== Sys2Proof/Reference.lean ====
section
/-! DEFINITION. The rules' mathematical definitions, written apart from the machine's loops, for statements that
compare the two: the product of polynomials over GF(2) (R100), polynomials over GF(256) (R120, R124, R128), maximal
runs (R164), windows (R167, R168), the illegal words (R75). No meaning uses them. -/

namespace Sys2Proof.Reference

open Sys2Proof.Machine

/-- The product of two polynomials over GF(2) (R100, R140), bit `i` the coefficient of xⁱ; `b` has degree below 16. -/
def carrylessMul (a b : Nat) : Nat :=
  (List.range 16).foldl (fun acc i => if b.testBit i then acc ^^^ (a <<< i) else acc) 0

/-- R101's step from one power of `ALPHA` to the next: `t = e << 1`, less `0x11D` where `t` has nine bits. -/
def timesAlpha (e : Byte) : Byte :=
  let t := e.toNat <<< 1
  BitVec.ofNat 8 (if t < 0x100 then t else t ^^^ Config.fieldPoly.toNat)

/-- `ALPHA` to the power `i` (R101). -/
def alphaPow : Nat → Byte
  | 0 => 0x01#8
  | i + 1 => timesAlpha (alphaPow i)

/-- `a` to the power `n` in GF(256) (R106). -/
def gfPow (a : Byte) : Nat → Byte
  | 0 => 0x01#8
  | n + 1 => gfMul a (gfPow a n)

/-- The sum over GF(256) of a list of elements (R103). -/
def gfSum (l : List Byte) : Byte := l.foldr (· ^^^ ·) 0x00#8

/-- The value at `ALPHA^j` of the polynomial with coefficients `c`, highest power first (R128):
xor over `i` of `gf_mul(c[i], EXP[(j·(n−1−i)) mod 255])`. -/
def valueAtAlpha (j : Nat) (c : List Byte) : Byte :=
  gfSum ((List.range c.length).map (fun i => gfMul (c.getD i 0) (expTable ((j * (c.length - 1 - i)) % 255))))

/-- The product of two polynomials over GF(256), coefficients highest power first. -/
def polyMul (p q : List Byte) : List Byte :=
  (List.range (p.length + q.length - 1)).map (fun m =>
    gfSum ((List.range (m + 1)).map (fun i => gfMul (p.getD i 0) (q.getD (m - i) 0))))

/-- R120's product of the factors `(x + ALPHA^0) … (x + ALPHA^(r−1))`. -/
def generatorProduct (r : Nat) : List Byte :=
  ((List.range r).map (fun i => [0x01#8, alphaPow i])).foldl polyMul [0x01#8]

/-- R164: `[a, b]` is a run of the line, that is, an interval of one colour that no longer one contains. -/
def maximalRun (m : List Bool) (a b : Nat) : Bool :=
  decide (a ≤ b) && decide (b < m.length) &&
    (List.range m.length).all (fun i => !(decide (a ≤ i) && decide (i ≤ b)) || m[i]? == m[a]?) &&
    (decide (a = 0) || m[a - 1]? != m[a]?) && m[b + 1]? != m[b]?

/-- R166 for one line: the sum over its runs of length 5 or more of `3 + (L − 5)`. -/
def runPenalty (m : List Bool) : Nat :=
  ∑ a ∈ Finset.range m.length, ∑ b ∈ Finset.range m.length,
    if maximalRun m a b = true ∧ 5 ≤ b - a + 1 then 3 + (b - a + 1 - 5) else 0

/-- R168 for one line: the number of positions `s`, `0 ≤ s ≤ N − 11`, at which the eleven modules are `w`. -/
def windowCount (w m : List Bool) : Nat :=
  ((Finset.range (m.length - 10)).filter (fun s => (m.drop s).take 11 = w)).card

/-- A sum over the 2N lines of a grid (R160). -/
def overLines (g : Grid) (n : Nat) (f : List Bool → Nat) : Nat :=
  ∑ y ∈ Finset.range n, f ((List.range n).map (fun x => g.module y x)) +
    ∑ x ∈ Finset.range n, f ((List.range n).map (fun y => g.module y x))

/-- R167: the positions of a 2 × 2 window of one colour. -/
def blockCount (g : Grid) (n : Nat) : Nat :=
  ((Finset.range (n - 1) ×ˢ Finset.range (n - 1)).filter (fun p =>
    g.module p.1 p.2 = g.module p.1 (p.2 + 1) ∧ g.module p.1 p.2 = g.module (p.1 + 1) p.2 ∧
      g.module p.1 p.2 = g.module (p.1 + 1) (p.2 + 1))).card

/-- R169: the number of dark modules. -/
def darkModules (g : Grid) (n : Nat) : Nat :=
  ((Finset.range n ×ˢ Finset.range n).filter (fun p => g.module p.1 p.2 = true)).card

/-- How many bits differ (R148). -/
def bitsThatDiffer (a b : Word) : Nat := (List.range 32).countP (fun i => a.getLsbD i != b.getLsbD i)

/-- The 26 opcodes of R73. -/
def listedOpcodes : List Byte :=
  [0x00, 0x01, 0x02, 0x03, 0x04, 0x10, 0x11, 0x12, 0x13, 0x14, 0x15, 0x16, 0x20, 0x21, 0x30, 0x31, 0x32, 0x33, 0x34,
   0x38, 0x39, 0x3A, 0xF0, 0xF1, 0xF2, 0xFF]

/-- R75: (a) the opcode is none of the 26, or (b) it is listed and a bit that its row marks "must be 0" is 1, or
(c) the word is `PEN_RD` with `sel` in 5 to 7. -/
def IllegalWord (w : Word) : Prop :=
  opOf w ∉ listedOpcodes ∨ (∃ row ∈ opcodeMap, opOf row.pattern = opOf w ∧ w &&& row.mask ≠ row.pattern) ∨
    w = 0x34000005#32 ∨ w = 0x34000006#32 ∨ w = 0x34000007#32

/-- The fault codes R201 lets each command raise once its word has decoded; `PEN_RD` is the one command whose own rule
raises `ILLEGAL_CMD` (R171). -/
def causesOf : Instr → List Byte
  | .gfDiv _ _ => [0x02]
  | .gfLog _ => [0x03]
  | .rsCfg _ _ => [0x04]
  | .rsWr _ _ => [0x05, 0x06]
  | .rsRd _ => [0x05, 0x06]
  | .rsEnc => [0x05]
  | .rsSynd => [0x05]
  | .rsRdsyn _ => [0x05, 0x06, 0x07]
  | .rsRdgen _ => [0x05, 0x06]
  | .gridCfg _ => [0x08]
  | .gridWr _ _ _ => [0x09, 0x0A]
  | .gridRd _ _ => [0x09, 0x0A]
  | .penScore => [0x09]
  | .penRd _ => [0x01, 0x0B]
  | .selUpd _ => [0x0B]
  | .nop => []
  | .gfMul _ _ => []
  | .gfExp _ => []
  | .bchFmt _ => []
  | .bchVer _ => []
  | .selClr => []
  | .selRd => []
  | .statRd => []
  | .idRd => []
  | .fcmdRd => []
  | .sreset => []

end Sys2Proof.Reference
end

