-- ==== Sys2Proof/Safety.lean ====
section
/-! DEFINITION. Runs (00_scope.md rule R11, 70_reset_and_hazards.md rule R233), what counts as a successful one, and
the invariant of the reachable states (10_state.md rule R36). -/

namespace Sys2Proof.Machine

open Sys2Proof.Reference

/-- A run from `s` (R11): the command words applied in order; the answer is the list of `RESP` values, one per
command, and the final state. There is none only where a step of the model stops. -/
def runWords (s : State) : List Word → Option (List Word × State)
  | [] => some ([], s)
  | w :: ws =>
    match execWord w s with
    | .next t => (runWords t ws).map (fun r => (t.resp :: r.1, r.2))
    | .fault _ => none
    | .refused _ => none

/-- The candidates a run offers the selector (R175): the mask index and the total of every accepted `SEL_UPD`, in
order. -/
def selCandidates (s : State) : List Word → List (BitVec 3 × Nat)
  | [] => []
  | w :: ws =>
    match decode w, execWord w s with
    | .ok (.selUpd m), .next t =>
      if t.faulted then selCandidates t ws else (m, s.penTotal.toNat) :: selCandidates t ws
    | _, .next t => selCandidates t ws
    | _, _ => []

/-- R233: a run that ends in the `FAULTED` state is not a successful run. -/
def State.successful (s : State) : Bool := !s.faulted

/-- No value of a penalty register exceeds this (R33, R170). -/
def penaltyMax : Nat := 2519698

/-- The state of the RS unit in which its commands execute (R222, R26): not faulted, configured, with the bounds R26
gives for a configured unit. -/
structure State.RsReady (s : State) : Prop where
  running : s.faulted = false
  valid : s.rsValid = true
  parityPos : 1 ≤ s.rsR.toNat
  parityMax : s.rsR.toNat ≤ 30
  lengthMax : s.rsK.toNat + s.rsR.toNat ≤ 255

/-- The state of the grid in which its commands execute (R222, R32): not faulted, configured, with the bounds R32
gives for a configured grid. -/
structure State.GridReady (s : State) : Prop where
  running : s.faulted = false
  valid : s.gridValid = true
  sizePos : 1 ≤ s.gridN.toNat
  sizeMax : s.gridN.toNat ≤ 177

/-- R37's table: every register and array entry at its reset value, and `STATUS` as `STAT_RD` reads it. -/
structure State.AtReset (s : State) : Prop where
  resp : s.resp = 0x00000000#32
  faulted : s.faulted = false
  faultCode : s.faultCode = 0x00#8
  faultCmd : s.faultCmd = 0x00000000#32
  rsK : s.rsK = 0
  rsR : s.rsR = 0
  rsValid : s.rsValid = false
  synValid : s.synValid = false
  synZero : s.synZero = false
  cw : ∀ i, i < 255 → s.cw.read i = 0x00#8
  gen : ∀ i, i < 31 → s.gen.read i = 0x00#8
  syn : ∀ i, i < 30 → s.syn.read i = 0x00#8
  gridN : s.gridN = 0
  gridValid : s.gridValid = false
  penValid : s.penValid = false
  bestValid : s.bestValid = false
  grid : ∀ y x, y < 177 → x < 177 → s.grid.module y x = false
  pen1 : s.pen1 = 0
  pen2 : s.pen2 = 0
  pen3 : s.pen3 = 0
  pen4 : s.pen4 = 0
  penTotal : s.penTotal = 0
  bestMask : s.bestMask = 0
  bestPen : s.bestPen = 0
  status : s.status = 0x00000000#32

/-- The invariant of R36, items (a) to (g), with what R27, R28, R29, R32, R33 say holds always, and the canonical form
of the byte arrays (log 10). Item (h) is a property of a step, not of a state. -/
structure State.Inv (s : State) : Prop where
  cwForm : Memory.wf 255 s.cw = true
  genForm : Memory.wf 31 s.gen = true
  synForm : Memory.wf 30 s.syn = true
  /-- (a) -/
  running : s.faulted = false → s.faultCode = 0 ∧ s.faultCmd = 0
  /-- (a) -/
  faultedCode : s.faulted = true → 1 ≤ s.faultCode.toNat ∧ s.faultCode.toNat ≤ 11
  /-- (b) -/
  rsUnconfigured : s.rsValid = false →
    s.rsK = 0 ∧ s.rsR = 0 ∧ s.synValid = false ∧ s.cw = [] ∧ s.gen = [] ∧ s.syn = []
  /-- (c) -/
  rsBounds : s.rsValid = true → 1 ≤ s.rsR.toNat ∧ s.rsR.toNat ≤ 30 ∧ s.rsK.toNat + s.rsR.toNat ≤ 255
  /-- (c), R28 -/
  generator : s.rsValid = true → ∀ i, s.gen.read i = (genPoly s.rsR.toNat).getD i 0
  /-- (c), R27 -/
  cwAbove : s.rsValid = true → ∀ i, s.rsK.toNat + s.rsR.toNat ≤ i → s.cw.read i = 0
  /-- R29 -/
  synAbove : ∀ j, s.rsR.toNat ≤ j → s.syn.read j = 0
  /-- (d) -/
  synConfigured : s.synValid = true → s.rsValid = true
  /-- (d) -/
  synValues : s.synValid = true → ∀ j, j < s.rsR.toNat → s.syn.read j = valueAtAlpha j s.codeword
  /-- (d), R29 -/
  synZeroMeans : s.synZero = true ↔ s.synValid = true ∧ ∀ j, j < s.rsR.toNat → s.syn.read j = 0
  /-- (e) -/
  gridUnconfigured : s.gridValid = false → s.gridN = 0 ∧ s.grid = Grid.light ∧ s.penValid = false ∧
    s.pen1 = 0 ∧ s.pen2 = 0 ∧ s.pen3 = 0 ∧ s.pen4 = 0 ∧ s.penTotal = 0
  /-- R32 -/
  gridBounds : s.gridValid = true → 1 ≤ s.gridN.toNat ∧ s.gridN.toNat ≤ 177
  /-- R32 -/
  gridOutside : ∀ y x, s.gridN.toNat ≤ y ∨ s.gridN.toNat ≤ x → s.grid.module y x = false
  /-- (f) -/
  penConfigured : s.penValid = true → s.gridValid = true
  /-- (f) -/
  penValues : s.penValid = true →
    s.pen1.toNat = rule1 s.grid s.gridN.toNat ∧ s.pen2.toNat = rule2 s.grid s.gridN.toNat ∧
    s.pen3.toNat = rule3 s.grid s.gridN.toNat ∧ s.pen4.toNat = rule4 s.grid s.gridN.toNat ∧
    s.penTotal.toNat = s.pen1.toNat + s.pen2.toNat + s.pen3.toNat + s.pen4.toNat
  /-- R33 -/
  penBounds : s.pen1.toNat ≤ penaltyMax ∧ s.pen2.toNat ≤ penaltyMax ∧ s.pen3.toNat ≤ penaltyMax ∧
    s.pen4.toNat ≤ penaltyMax ∧ s.penTotal.toNat ≤ penaltyMax
  /-- (g) -/
  bestEmpty : s.bestValid = false → s.bestMask = 0 ∧ s.bestPen = 0
  /-- R174: the best total always fits its 24 bits -/
  bestBound : s.bestPen.toNat ≤ penaltyMax

end Sys2Proof.Machine
end

