-- ==== Sys2Proof/WellFormed.lean ====
section
/-! DEFINITION. Which terms of `Instr` are well-formed commands. The operand types already bound every field, so
one check is left: `PEN_RD`'s operand values 5 to 7 are reserved (R73, R75 case (c)). -/

namespace Sys2Proof

/-- R73: the operand values of `PEN_RD` that are not reserved, 0 to 4. -/
def penSelOk (sel : BitVec 3) : Bool := decide (sel.toNat ≤ 4)

/-- R75: a term that no case of the rule makes illegal. -/
def Instr.wellFormed : Instr → Bool
  | .nop => true
  | .gfMul _ _ => true
  | .gfDiv _ _ => true
  | .gfExp _ => true
  | .gfLog _ => true
  | .rsCfg _ _ => true
  | .rsWr _ _ => true
  | .rsRd _ => true
  | .rsEnc => true
  | .rsSynd => true
  | .rsRdsyn _ => true
  | .rsRdgen _ => true
  | .bchFmt _ => true
  | .bchVer _ => true
  | .gridCfg _ => true
  | .gridWr _ _ _ => true
  | .gridRd _ _ => true
  | .penScore => true
  | .penRd sel => penSelOk sel
  | .selClr => true
  | .selUpd _ => true
  | .selRd => true
  | .statRd => true
  | .idRd => true
  | .fcmdRd => true
  | .sreset => true

end Sys2Proof
end

