-- ==== Sys2Proof/Certificates/Slice0/Obligations.lean ====
section
/-! DEFINITION. The statements for the provers, in the order of OBLIGATIONS.json. A statement that gives a next state
gives all of it: a record `{ s with … }` names every field that may change, so it is the command's frame as well. -/

open Sys2Proof Sys2Proof.Machine Sys2Proof.Reference

/-! ### Encoding -/

/-- R70, R71, R73, R74: decoding the word of any command, with any operands its fields admit, gives that command
back. -/
def Obligations.DecodingTheEncodedCommandGivesItBack : Prop :=
  ∀ i : Instr, decode (encode i) = .ok i

/-- R71, R73: no bit of a command word is dropped: a word that decodes is the word of the command it decodes to. So
the `FAULT_CMD` that a meaning writes, `encode i`, is the word the host presented (R204). -/
def Obligations.EncodingTheDecodedWordGivesItBack : Prop :=
  ∀ (w : Word) (i : Instr), decode w = .ok i → encode i = w

/-- R73: the decoder and the opcode map agree, row by row: a word matches a row exactly when it decodes to a command
of that row's mnemonic. -/
def Obligations.DecoderFollowsTheOpcodeMap : Prop :=
  ∀ (w : Word), ∀ row ∈ opcodeMap,
    row.matches w = true ↔ ∃ i, decode w = .ok i ∧ mnemonicOf i = row.mnemonic

/-- R78, R107, R110, R145: words the spec writes out decode to the commands it writes beside them. -/
def Obligations.WordsTheSpecWritesOutDecode : Prop :=
  decode 0x1000100A#32 = .ok (.rsCfg 16 10) ∧ decode 0x11000378#32 = .ok (.rsWr 3 0x78) ∧
  decode 0x31020001#32 = .ok (.gridWr 2 0 1) ∧ decode 0x20000005#32 = .ok (.bchFmt 5) ∧
  decode 0x13000000#32 = .ok .rsEnc ∧ decode 0x010053CA#32 = .ok (.gfMul 0x53 0xCA) ∧
  decode 0x0400001D#32 = .ok (.gfLog 0x1D) ∧ decode 0x21000007#32 = .ok (.bchVer 7) ∧
  decode 0x39000001#32 = .ok (.selUpd 1) ∧ decode 0xF2000000#32 = .ok .fcmdRd

/-- R78: the assembler gives each command for its mnemonic and operands, and what it gives has just the mnemonic and the
operands written: it never truncates one. -/
def Obligations.AssemblerNeverTruncates : Prop :=
  (∀ i : Instr, assemble (mnemonicOf i) (operandsOf i) = some i) ∧
  (∀ (m : String) (ops : List Nat) (i : Instr), assemble m ops = some i → mnemonicOf i = m ∧ operandsOf i = ops)

/-- R75: an illegal word, in each of the rule's three cases, raises `ILLEGAL_CMD` with itself as `FAULT_CMD` in `RUN`,
and is ignored in `FAULTED`. -/
def Obligations.IllegalWordsRaiseIllegalCommand : Prop :=
  ∀ (s : State) (w : Word), IllegalWord w →
    (s.faulted = false → execWord w s =
      .next { s with faulted := true, faultCode := 0x01, faultCmd := w, resp := 0xFFFFFFFF#32 }) ∧
    (s.faulted = true → execWord w s = .next { s with resp := 0xFFFFFFFF#32 })

/-! ### The step -/

/-- R58, R60, R72, R75, R203, R204, R215, R220: a step takes the oldest pending port event: a command word runs as the
command it decodes to, a word that is no command is illegal or ignored, a reset resets, and with nothing pending the
state is held. The port as a list in the state, and `withFetchWord` as the way a word is presented, are the model's own choice (logs 1, 2, 3). -/
def Obligations.StepRunsTheOldestPortEvent : Prop :=
  (∀ s : State, s.port = [] → step s = .next s) ∧
  (∀ (s : State) (w : Word) (rest : List PortEvent) (i : Instr),
    s.port = .command w :: rest → decode w = .ok i → step s = exec i { s with port := rest }) ∧
  (∀ (s : State) (w : Word) (rest : List PortEvent) (e : DecodeError),
    s.port = .command w :: rest → decode w = .error e → step s = .next (if s.faulted
      then { s with port := rest, resp := 0xFFFFFFFF#32 }
      else { s with port := rest, faulted := true, faultCode := 0x01, faultCmd := w, resp := 0xFFFFFFFF#32 })) ∧
  (∀ (s : State) (rest : List PortEvent),
    s.port = .reset :: rest → step s = .next { State.reset with port := rest }) ∧
  (∀ (s : State) (w : Nat), step (s.withFetchWord 32 w) = execWord (BitVec.ofNat 32 w) s)

/-! ### Faults -/

/-- R203: what each word does in the `FAULTED` state. That `SRESET` keeps the host's pending events is the model's choice
(log 2). -/
def Obligations.FaultedStateExecutesOnlyFourWords : Prop :=
  ∀ (s : State) (w : Word), s.faulted = true →
    execWord w s = .next (
      if w = 0xF0000000#32 then { s with resp := s.status }
      else if w = 0xF1000000#32 then { s with resp := 0x51520100#32 }
      else if w = 0xF2000000#32 then { s with resp := s.faultCmd }
      else if w = 0xFF000000#32 then { State.reset with port := s.port }
      else { s with resp := 0xFFFFFFFF#32 })

/-- R36 (h), R205, R228: from a `FAULTED` state every list of words without `SRESET` runs to its end and changes no
register but `RESP`. -/
def Obligations.FaultIsKeptUntilReset : Prop :=
  ∀ (s : State) (ws : List Word), s.faulted = true → 0xFF000000#32 ∉ ws →
    ∃ rs, runWords s ws = some (rs, { s with resp := rs.getLast?.getD s.resp })

/-- R204: fault entry does its four writes and nothing else: a word that leaves a running block `FAULTED` has changed
`FAULTED`, `FAULT_CODE` (to a cause's code), `FAULT_CMD` (to that word) and `RESP`. -/
def Obligations.FaultsArePrecise : Prop :=
  ∀ (s t : State) (w : Word), s.faulted = false → execWord w s = .next t → t.faulted = true →
    ∃ c : Cause, t = { s with faulted := true, faultCode := c.code, faultCmd := w, resp := 0xFFFFFFFF#32 }

/-- R201: a command raises no cause but those the table lists for it, and commands the table does not list raise
none. -/
def Obligations.CommandsRaiseOnlyTheirCauses : Prop :=
  ∀ (s t : State) (i : Instr), s.faulted = false → exec i s = .next t → t.faulted = true →
    t.faultCode ∈ causesOf i

/-- R201, R202 (3), R222: a command of a unit that is not configured raises `RS_NOT_CFG` or `GRID_NOT_CFG`, whatever
its operands and the other flags. -/
def Obligations.UnconfiguredUnitsFaultFirst : Prop :=
  ∀ s : State, s.faulted = false →
    (s.rsValid = false → ∀ i : Instr,
      ((∃ idx byte, i = .rsWr idx byte) ∨ (∃ idx, i = .rsRd idx) ∨ i = .rsEnc ∨ i = .rsSynd ∨
        (∃ j, i = .rsRdsyn j) ∨ (∃ j, i = .rsRdgen j)) →
      exec i s = .next { s with faulted := true, faultCode := 0x05, faultCmd := encode i, resp := 0xFFFFFFFF#32 }) ∧
    (s.gridValid = false → ∀ i : Instr,
      ((∃ row col v, i = .gridWr row col v) ∨ (∃ row col, i = .gridRd row col) ∨ i = .penScore) →
      exec i s = .next { s with faulted := true, faultCode := 0x09, faultCmd := encode i, resp := 0xFFFFFFFF#32 })

/-- R201, R202 (2), (4), R222: a result out of date is not read: `SYN_STALE` before any index check, `PEN_STALE`; a
reserved `PEN_RD` selector is illegal whether the scores are valid or not. -/
def Obligations.StaleResultsFault : Prop :=
  ∀ s : State, s.faulted = false →
    (s.rsValid = true → s.synValid = false → ∀ j, exec (.rsRdsyn j) s =
      .next { s with faulted := true, faultCode := 0x07, faultCmd := encode (.rsRdsyn j), resp := 0xFFFFFFFF#32 }) ∧
    (s.penValid = false → ∀ sel : BitVec 3, sel.toNat ≤ 4 → exec (.penRd sel) s =
      .next { s with faulted := true, faultCode := 0x0B, faultCmd := encode (.penRd sel), resp := 0xFFFFFFFF#32 }) ∧
    (s.penValid = false → ∀ m, exec (.selUpd m) s =
      .next { s with faulted := true, faultCode := 0x0B, faultCmd := encode (.selUpd m), resp := 0xFFFFFFFF#32 }) ∧
    (∀ sel : BitVec 3, 4 < sel.toNat → exec (.penRd sel) s =
      .next { s with faulted := true, faultCode := 0x01, faultCmd := encode (.penRd sel), resp := 0xFFFFFFFF#32 })

/-- R201, R202 (5), R108, R110, R121 to R123, R130, R131, R161 to R163: an operand outside its range or without a
value raises the command's fault and nothing is written but by fault entry. -/
def Obligations.OperandsOutOfRangeFault : Prop :=
  ∀ s : State, s.faulted = false →
    (∀ a, exec (.gfDiv a 0) s =
      .next { s with faulted := true, faultCode := 0x02, faultCmd := encode (.gfDiv a 0), resp := 0xFFFFFFFF#32 }) ∧
    (exec (.gfLog 0) s =
      .next { s with faulted := true, faultCode := 0x03, faultCmd := encode (.gfLog 0), resp := 0xFFFFFFFF#32 }) ∧
    (∀ k r : Byte, (r.toNat < 1 ∨ 30 < r.toNat ∨ 255 < k.toNat + r.toNat) → exec (.rsCfg k r) s =
      .next { s with faulted := true, faultCode := 0x04, faultCmd := encode (.rsCfg k r), resp := 0xFFFFFFFF#32 }) ∧
    (s.rsValid = true → ∀ idx byte : Byte, s.rsK.toNat + s.rsR.toNat ≤ idx.toNat → exec (.rsWr idx byte) s =
      .next { s with faulted := true, faultCode := 0x06, faultCmd := encode (.rsWr idx byte), resp := 0xFFFFFFFF#32 }) ∧
    (s.rsValid = true → ∀ idx : Byte, s.rsK.toNat + s.rsR.toNat ≤ idx.toNat → exec (.rsRd idx) s =
      .next { s with faulted := true, faultCode := 0x06, faultCmd := encode (.rsRd idx), resp := 0xFFFFFFFF#32 }) ∧
    (s.rsValid = true → s.synValid = true → ∀ j : Byte, s.rsR.toNat ≤ j.toNat → exec (.rsRdsyn j) s =
      .next { s with faulted := true, faultCode := 0x06, faultCmd := encode (.rsRdsyn j), resp := 0xFFFFFFFF#32 }) ∧
    (s.rsValid = true → ∀ i : Byte, s.rsR.toNat < i.toNat → exec (.rsRdgen i) s =
      .next { s with faulted := true, faultCode := 0x06, faultCmd := encode (.rsRdgen i), resp := 0xFFFFFFFF#32 }) ∧
    (∀ n : Byte, (n.toNat < 1 ∨ 177 < n.toNat) → exec (.gridCfg n) s =
      .next { s with faulted := true, faultCode := 0x08, faultCmd := encode (.gridCfg n), resp := 0xFFFFFFFF#32 }) ∧
    (s.gridValid = true → ∀ (row col : Byte) (v : BitVec 1),
      (s.gridN.toNat ≤ row.toNat ∨ s.gridN.toNat ≤ col.toNat) → exec (.gridWr row col v) s =
      .next { s with faulted := true, faultCode := 0x0A, faultCmd := encode (.gridWr row col v), resp := 0xFFFFFFFF#32 }) ∧
    (s.gridValid = true → ∀ row col : Byte,
      (s.gridN.toNat ≤ row.toNat ∨ s.gridN.toNat ≤ col.toNat) → exec (.gridRd row col) s =
      .next { s with faulted := true, faultCode := 0x0A, faultCmd := encode (.gridRd row col), resp := 0xFFFFFFFF#32 })

/-! ### System commands -/

/-- R190: `NOP` answers 0 and changes nothing else; with a bit of 23:0 set the word is illegal; in `FAULTED` it is
ignored. -/
def Obligations.NopOnlyAnswersZero : Prop :=
  ∀ s : State,
    (s.faulted = false → exec .nop s = .next { s with resp := 0 } ∧ execWord 0x00000000#32 s = .next { s with resp := 0 }) ∧
    (s.faulted = true → exec .nop s = .next { s with resp := 0xFFFFFFFF#32 }) ∧
    (∀ w : Word, opOf w = 0x00#8 → w ≠ 0x00000000#32 → s.faulted = false → execWord w s =
      .next { s with faulted := true, faultCode := 0x01, faultCmd := w, resp := 0xFFFFFFFF#32 })

/-- R25, R191: `STAT_RD` answers, in either state, the word made of the flags and the fault code, reserved bits zero,
and changes nothing else. -/
def Obligations.StatusIsAssembledFromTheFlags : Prop :=
  ∀ s : State, ∃ v : Word, exec .statRd s = .next { s with resp := v } ∧
    v.getLsbD 0 = s.faulted ∧ v.getLsbD 1 = s.rsValid ∧ v.getLsbD 2 = s.synValid ∧ v.getLsbD 3 = s.synZero ∧
    v.getLsbD 4 = s.gridValid ∧ v.getLsbD 5 = s.penValid ∧ v.getLsbD 6 = s.bestValid ∧ v.getLsbD 7 = false ∧
    v.extractLsb' 8 8 = s.faultCode ∧ v.extractLsb' 16 16 = 0

/-- R192, and R191, R193 in the same words: the three read commands execute in either state and change `RESP` only;
with a bit of 23:0 set their words are illegal in `RUN` and ignored in `FAULTED`. -/
def Obligations.SystemReadsExecuteInBothStates : Prop :=
  ∀ s : State,
    exec .statRd s = .next { s with resp := s.status } ∧ execWord 0xF0000000#32 s = .next { s with resp := s.status } ∧
    exec .idRd s = .next { s with resp := 0x51520100#32 } ∧
    execWord 0xF1000000#32 s = .next { s with resp := 0x51520100#32 } ∧
    exec .fcmdRd s = .next { s with resp := s.faultCmd } ∧
    execWord 0xF2000000#32 s = .next { s with resp := s.faultCmd } ∧
    (∀ w : Word, opOf w = 0xF0#8 ∨ opOf w = 0xF1#8 ∨ opOf w = 0xF2#8 →
      w ≠ 0xF0000000#32 → w ≠ 0xF1000000#32 → w ≠ 0xF2000000#32 →
      (s.faulted = false → execWord w s =
        .next { s with faulted := true, faultCode := 0x01, faultCmd := w, resp := 0xFFFFFFFF#32 }) ∧
      (s.faulted = true → execWord w s = .next { s with resp := 0xFFFFFFFF#32 }))

/-- R37, R194, R220: `SRESET` and the reset input answer, from any state, a state with every register and array entry at
R37's value; so is the state a run starts from; and the constant tables hold R101's and R102's entries. -/
def Obligations.ResetLeavesTheTableOfResetValues : Prop :=
  State.reset.AtReset ∧
  (∀ s : State, ∃ t, exec .sreset s = .next t ∧ execWord 0xFF000000#32 s = .next t ∧ onEvent .reset s = .next t ∧
    t.AtReset) ∧
  expTable 0 = 0x01#8 ∧ (∀ i, i < 254 → expTable (i + 1) = timesAlpha (expTable i)) ∧ expTable 255 = 0x01#8 ∧
  (∀ a : Byte, a ≠ 0 → logTable a ≤ 254 ∧ expTable (logTable a) = a)

/-! ### GF(256) -/

/-- R100, R104, R107: `GF_MUL` answers the product of the two polynomials reduced modulo the field polynomial: the `r` of
degree below 8 that differs from the product by a multiple of p(x). Nothing else changes. -/
def Obligations.GfMulIsTheProductModuloTheFieldPolynomial : Prop :=
  ∀ (a b : Byte) (s : State), s.faulted = false →
    ∃ r q : Nat, r < 256 ∧ exec (.gfMul a b) s = .next { s with resp := BitVec.ofNat 32 r } ∧
      carrylessMul a.toNat b.toNat = carrylessMul q 0x11D ^^^ r

/-- R105, R108: with a divisor that is not zero `GF_DIV` answers the unique `q` with `gf_mul(q, b) = a`. -/
def Obligations.GfDivUndoesMultiplication : Prop :=
  ∀ (a b : Byte) (s : State), s.faulted = false → b ≠ 0 →
    ∃ q : Byte, exec (.gfDiv a b) s = .next { s with resp := q.zeroExtend 32 } ∧ gfMul q b = a ∧
      ∀ q', gfMul q' b = a → q' = q

/-- R101, R109: `GF_EXP` answers the power of `ALPHA`. -/
def Obligations.GfExpAnswersThePowerOfAlpha : Prop :=
  ∀ (i : Byte) (s : State), s.faulted = false →
    exec (.gfExp i) s = .next { s with resp := (alphaPow i.toNat).zeroExtend 32 }

/-- R102, R110: with an operand that is not zero `GF_LOG` answers the unique exponent from 0 to 254. -/
def Obligations.GfLogAnswersTheExponent : Prop :=
  ∀ (a : Byte) (s : State), s.faulted = false → a ≠ 0 →
    ∃ n, n ≤ 254 ∧ exec (.gfLog a) s = .next { s with resp := BitVec.ofNat 32 n } ∧ alphaPow n = a ∧
      ∀ m, m ≤ 254 → alphaPow m = a → m = n

/-- R106: the laws of the field's multiplication and division. -/
def Obligations.FieldArithmeticLaws : Prop :=
  (∀ a b, gfMul a b = gfMul b a) ∧ (∀ a b c, gfMul (gfMul a b) c = gfMul a (gfMul b c)) ∧
  (∀ a b c, gfMul a (b ^^^ c) = gfMul a b ^^^ gfMul a c) ∧ (∀ a, gfMul 0x01 a = a) ∧ (∀ a, gfMul 0x00 a = 0x00) ∧
  (∀ a, a ≠ 0 → gfMul a (gfDiv 0x01 a) = 0x01 ∧ gfDiv 0x01 a = expTable ((255 - logTable a) % 255)) ∧
  (∀ a b, b ≠ 0 → gfMul (gfDiv a b) b = a) ∧ (∀ a b, gfMul a b = 0 → a = 0 ∨ b = 0) ∧
  (∀ a, a ≠ 0 → gfPow a 255 = 0x01)

/-! ### BCH words -/

/-- R141, R142: `BCH_FMT` answers the payload with ten check bits that make it a multiple of `G15`, all fifteen bits
masked. -/
def Obligations.BchFmtAnswersTheMaskedCodeword : Prop :=
  ∀ (d : BitVec 5) (s : State), s.faulted = false →
    ∃ chk q : Nat, chk < 2 ^ 10 ∧ d.toNat * 2 ^ 10 + chk = carrylessMul q 0x537 ∧
      exec (.bchFmt d) s = .next { s with resp := BitVec.ofNat 32 ((d.toNat * 2 ^ 10 + chk) ^^^ 0x5412) }

/-- R144, R145: `BCH_VER` answers the version with twelve check bits that make it a multiple of `G18`, for all 64
operand values, unmasked. -/
def Obligations.BchVerAnswersTheCodeword : Prop :=
  ∀ (v : BitVec 6) (s : State), s.faulted = false →
    ∃ chk q : Nat, chk < 2 ^ 12 ∧ v.toNat * 2 ^ 12 + chk = carrylessMul q 0x1F25 ∧
      exec (.bchVer v) s = .next { s with resp := BitVec.ofNat 32 (v.toNat * 2 ^ 12 + chk) }

/-- R148: both codes' properties: remainder zero, linear before the mask, words far apart, the payload readable from the
top bits (so that the maps are injective); the words being those the commands answer. -/
def Obligations.BchWordsAreFarApart : Prop :=
  (∀ d : BitVec 5, bchRem (formatRaw d.toNat) 0x537 10 = 0) ∧ (∀ v : BitVec 6, bchRem (versionWord v.toNat) 0x1F25 12 = 0) ∧
  (∀ a b : BitVec 5, formatRaw (a ^^^ b).toNat = formatRaw a.toNat ^^^ formatRaw b.toNat) ∧
  (∀ a b : BitVec 6, versionWord (a ^^^ b).toNat = versionWord a.toNat ^^^ versionWord b.toNat) ∧
  (∀ (a b : BitVec 5) (s : State), s.faulted = false → a ≠ b → ∃ t u, exec (.bchFmt a) s = .next t ∧
    exec (.bchFmt b) s = .next u ∧ 7 ≤ bitsThatDiffer t.resp u.resp ∧
    t.resp = BitVec.ofNat 32 (formatRaw a.toNat ^^^ 0x5412) ∧ (t.resp ^^^ 0x5412#32).extractLsb' 10 5 = a) ∧
  (∀ (a b : BitVec 6) (s : State), s.faulted = false → a ≠ b → ∃ t u, exec (.bchVer a) s = .next t ∧
    exec (.bchVer b) s = .next u ∧ 8 ≤ bitsThatDiffer t.resp u.resp ∧
    t.resp = BitVec.ofNat 32 (versionWord a.toNat) ∧ t.resp.extractLsb' 12 6 = a)

/-! ### Reed–Solomon unit -/

/-- R120, R121, R224: an accepted `RS_CFG` sets the sizes, clears `CW` and `SYN`, stores in `GEN` the product of the factors
`(x + ALPHA^i)` with zeros above, sets `RS_VALID`, clears the syndrome flags, answers 0, and changes nothing else. -/
def Obligations.RsCfgConfiguresAndClears : Prop :=
  ∀ (k r : Byte) (s : State), s.faulted = false → 1 ≤ r.toNat → r.toNat ≤ 30 → k.toNat + r.toNat ≤ 255 →
    ∃ t, exec (.rsCfg k r) s = .next t ∧
      (∀ i, t.cw.read i = 0) ∧ (∀ i, t.syn.read i = 0) ∧
      (∀ i, t.gen.read i = (generatorProduct r.toNat).getD i 0) ∧
      t = { s with rsK := k, rsR := r, cw := t.cw, syn := t.syn, gen := t.gen, rsValid := true, synValid := false,
                   synZero := false, resp := 0 }

/-- R120, R126: the generator polynomial an accepted `RS_CFG` stores is monic and has the roots `ALPHA^0` to
`ALPHA^(r−1)`. -/
def Obligations.GeneratorPolynomialIsMonicWithItsRoots : Prop :=
  ∀ (k r : Byte) (s : State), s.faulted = false → 1 ≤ r.toNat → r.toNat ≤ 30 → k.toNat + r.toNat ≤ 255 →
    ∃ t, exec (.rsCfg k r) s = .next t ∧ t.gen.read 0 = 0x01#8 ∧
      ∀ j, j < r.toNat → valueAtAlpha j (t.gen.slice 0 (r.toNat + 1)) = 0

/-- R122: `RS_WR` writes one byte of the codeword, parity positions included, and makes the syndromes stale, even where the
byte is the old one. -/
def Obligations.RsWrWritesOneByte : Prop :=
  ∀ (idx byte : Byte) (s : State), s.RsReady → idx.toNat < s.rsK.toNat + s.rsR.toNat →
    ∃ t, exec (.rsWr idx byte) s = .next t ∧
      (∀ j, t.cw.read j = if j = idx.toNat then byte else s.cw.read j) ∧
      t = { s with cw := t.cw, synValid := false, synZero := false, resp := 0 }

/-- R123, R130, R131, R163, R171: the five commands that read one element of an array or one penalty register answer it,
zero-extended, and change nothing else. -/
def Obligations.ReadCommandsAnswerOneElement : Prop :=
  (∀ (idx : Byte) (s : State), s.RsReady → idx.toNat < s.rsK.toNat + s.rsR.toNat →
    exec (.rsRd idx) s = .next { s with resp := (s.cw.read idx.toNat).zeroExtend 32 }) ∧
  (∀ (j : Byte) (s : State), s.RsReady → s.synValid = true → j.toNat < s.rsR.toNat →
    exec (.rsRdsyn j) s = .next { s with resp := (s.syn.read j.toNat).zeroExtend 32 }) ∧
  (∀ (i : Byte) (s : State), s.RsReady → i.toNat ≤ s.rsR.toNat →
    exec (.rsRdgen i) s = .next { s with resp := (s.gen.read i.toNat).zeroExtend 32 }) ∧
  (∀ (row col : Byte) (s : State), s.GridReady → row.toNat < s.gridN.toNat → col.toNat < s.gridN.toNat →
    exec (.gridRd row col) s =
      .next { s with resp := if s.grid.module row.toNat col.toNat = true then 1#32 else 0#32 }) ∧
  (∀ s : State, s.faulted = false → s.penValid = true →
    exec (.penRd 0) s = .next { s with resp := s.penTotal } ∧ exec (.penRd 1) s = .next { s with resp := s.pen1 } ∧
    exec (.penRd 2) s = .next { s with resp := s.pen2 } ∧ exec (.penRd 3) s = .next { s with resp := s.pen3 } ∧
    exec (.penRd 4) s = .next { s with resp := s.pen4 })

/-- R124, R125, R225: `RS_ENC` stores at `CW[k .. k+r−1]` the remainder of `D(x)·x^r` divided by the generator polynomial (some
quotient `q` of `k` coefficients makes `D(x)·x^r = q(x)·g(x) + P(x)`), leaves every other byte, and makes the syndromes
stale. The premise on `GEN` is R28's. -/
def Obligations.RsEncStoresTheRemainder : Prop :=
  ∀ s : State, s.RsReady → (∀ i, s.gen.read i = (genPoly s.rsR.toNat).getD i 0) →
    ∃ (t : State) (q : List Byte), exec .rsEnc s = .next t ∧ q.length = s.rsK.toNat ∧
      s.cw.slice 0 s.rsK.toNat ++ List.replicate s.rsR.toNat 0 =
        xorBytes (polyMul q (genPoly s.rsR.toNat))
          (List.replicate s.rsK.toNat 0 ++ t.cw.slice s.rsK.toNat s.rsR.toNat) ∧
      (∀ i, i < s.rsK.toNat ∨ s.rsK.toNat + s.rsR.toNat ≤ i → t.cw.read i = s.cw.read i) ∧
      t = { s with cw := t.cw, synValid := false, synZero := false, resp := 0 }

/-- R128, R129: `RS_SYND` stores the value of the codeword polynomial at each root, says whether all are zero, and changes
nothing else. -/
def Obligations.RsSyndStoresTheSyndromes : Prop :=
  ∀ s : State, s.RsReady →
    ∃ t, exec .rsSynd s = .next t ∧
      (∀ j, t.syn.read j = if j < s.rsR.toNat then valueAtAlpha j (s.cw.slice 0 (s.rsK.toNat + s.rsR.toNat))
        else s.syn.read j) ∧
      t.synValid = true ∧ (t.synZero = true ↔ ∀ j, j < s.rsR.toNat → t.syn.read j = 0) ∧
      t = { s with syn := t.syn, synValid := true, synZero := t.synZero, resp := if t.synZero = true then 1 else 0 }

/-- R126, R132: from every state of the invariant with an accepted configuration and any data, `RS_ENC` then `RS_SYND`
leaves `SYN_ZERO = 1` and `RESP = 1`. -/
def Obligations.EncodedBlockHasZeroSyndromes : Prop :=
  ∀ s : State, s.Inv → s.faulted = false → s.rsValid = true →
    ∃ t u, exec .rsEnc s = .next t ∧ exec .rsSynd t = .next u ∧ u.synValid = true ∧ u.synZero = true ∧ u.resp = 1 ∧
      ∀ j, j < s.rsR.toNat → u.syn.read j = 0

/-- R132: changing any one byte of a codeword makes `S_0` non-zero, so `RS_SYND` answers 0. -/
def Obligations.OneWrongByteIsDetected : Prop :=
  ∀ (s : State) (idx byte : Byte), s.Inv → s.faulted = false → s.rsValid = true →
    idx.toNat < s.rsK.toNat + s.rsR.toNat →
    ∃ t, exec .rsEnc s = .next t ∧ (byte ≠ t.cw.read idx.toNat →
      ∃ u v, exec (.rsWr idx byte) t = .next u ∧ exec .rsSynd u = .next v ∧
        v.syn.read 0 ≠ 0 ∧ v.synZero = false ∧ v.resp = 0)

/-- R125: encoding is linear: the parity of the xor of two data blocks is the xor of their parities. -/
def Obligations.EncodingIsLinear : Prop :=
  ∀ a b c : State, a.RsReady → b.RsReady → c.RsReady → b.rsK = a.rsK → c.rsK = a.rsK → b.rsR = a.rsR → c.rsR = a.rsR →
    (∀ i, b.gen.read i = a.gen.read i) → (∀ i, c.gen.read i = a.gen.read i) →
    (∀ i, i < a.rsK.toNat → c.cw.read i = a.cw.read i ^^^ b.cw.read i) →
    ∃ ta tb tc, exec .rsEnc a = .next ta ∧ exec .rsEnc b = .next tb ∧ exec .rsEnc c = .next tc ∧
      ∀ i, i < a.rsK.toNat + a.rsR.toNat → tc.cw.read i = ta.cw.read i ^^^ tb.cw.read i

/-- R125, R225: the parity does not depend on what stood in the parity positions: two states that agree on the
configuration, `GEN` and the data bytes hold the same codeword after `RS_ENC`. So encoding twice gives the same
parity. -/
def Obligations.EncodingIgnoresTheParityPositions : Prop :=
  ∀ a b : State, a.RsReady → b.RsReady → b.rsK = a.rsK → b.rsR = a.rsR →
    (∀ i, b.gen.read i = a.gen.read i) → (∀ i, i < a.rsK.toNat → b.cw.read i = a.cw.read i) →
    ∃ ta tb, exec .rsEnc a = .next ta ∧ exec .rsEnc b = .next tb ∧
      ∀ i, i < a.rsK.toNat + a.rsR.toNat → ta.cw.read i = tb.cw.read i

/-! ### Penalty accumulator -/

/-- R161, R224, R226: an accepted `GRID_CFG` sets the size, makes every module light, zeroes the penalty registers, sets
`GRID_VALID`, clears `PEN_VALID`, answers 0 and changes nothing else, so the selector outlives it. -/
def Obligations.GridCfgClearsTheGrid : Prop :=
  ∀ (n : Byte) (s : State), s.faulted = false → 1 ≤ n.toNat → n.toNat ≤ 177 →
    ∃ t, exec (.gridCfg n) s = .next t ∧ (∀ y x, t.grid.module y x = false) ∧
      t = { s with gridN := n, grid := t.grid, pen1 := 0, pen2 := 0, pen3 := 0, pen4 := 0, penTotal := 0,
                   gridValid := true, penValid := false, resp := 0 }

/-- R162: `GRID_WR` writes one module, makes the scores stale even where the colour is the old one, and changes nothing
else. -/
def Obligations.GridWrWritesOneModule : Prop :=
  ∀ (row col : Byte) (v : BitVec 1) (s : State), s.GridReady → row.toNat < s.gridN.toNat → col.toNat < s.gridN.toNat →
    ∃ t, exec (.gridWr row col v) s = .next t ∧
      (∀ y x, t.grid.module y x =
        if y = row.toNat ∧ x = col.toNat then decide (v = 1#1) else s.grid.module y x) ∧
      t = { s with grid := t.grid, penValid := false, resp := 0 }

/-- R164, R166: `PEN1` is the sum over the 2N lines and their maximal runs of length 5 or more of `3 + (L − 5)`. -/
def Obligations.PenaltyOneIsTheSumOverMaximalRuns : Prop :=
  ∀ s : State, s.GridReady → ∃ t, exec .penScore s = .next t ∧
    t.pen1.toNat = overLines s.grid s.gridN.toNat runPenalty

/-- R167: `PEN2` is three times the number of 2 × 2 windows of one colour, overlapping ones each counted. -/
def Obligations.PenaltyTwoCountsTheBlocks : Prop :=
  ∀ s : State, s.GridReady → ∃ t, exec .penScore s = .next t ∧
    t.pen2.toNat = 3 * blockCount s.grid s.gridN.toNat

/-- R168: `PEN3` is forty times the number of positions, in rows and columns, at which window A or window B stands. -/
def Obligations.PenaltyThreeCountsTheWindows : Prop :=
  ∀ s : State, s.GridReady → ∃ t, exec .penScore s = .next t ∧
    t.pen3.toNat = 40 * (
      overLines s.grid s.gridN.toNat
        (windowCount [true, false, true, true, true, false, true, false, false, false, false]) +
      overLines s.grid s.gridN.toNat
        (windowCount [false, false, false, false, true, false, true, true, true, false, true]))

/-- R169: `PEN4` is ten times the floor of a fifth of the deviation of the dark percentage from 50, over the
rationals. -/
def Obligations.PenaltyFourIsTheExactBalance : Prop :=
  ∀ s : State, s.GridReady → ∃ t, exec .penScore s = .next t ∧
    (t.pen4.toNat : ℤ) =
      10 * ⌊|100 * (darkModules s.grid s.gridN.toNat : ℚ) / ((s.gridN.toNat : ℚ) * s.gridN.toNat) - 50| / 5⌋

/-- R165, R170: `PEN_SCORE` stores the exact sum of its four scores (no sum wraps), answers it, sets `PEN_VALID`, and changes
neither the grid nor the selector nor anything else. -/
def Obligations.PenScoreStoresTheTotal : Prop :=
  ∀ s : State, s.GridReady → ∃ t, exec .penScore s = .next t ∧
    t.penTotal.toNat = t.pen1.toNat + t.pen2.toNat + t.pen3.toNat + t.pen4.toNat ∧
    t = { s with pen1 := t.pen1, pen2 := t.pen2, pen3 := t.pen3, pen4 := t.pen4, penTotal := t.penTotal,
                 penValid := true, resp := t.penTotal }

/-- R166 to R170: the bounds of the four scores and of the total. -/
def Obligations.PenaltiesAreBounded : Prop :=
  ∀ s : State, s.GridReady → ∃ t, exec .penScore s = .next t ∧
    t.pen1.toNat ≤ 2 * s.gridN.toNat * (s.gridN.toNat - 2) ∧
    t.pen2.toNat ≤ 3 * (s.gridN.toNat - 1) ^ 2 ∧
    t.pen3.toNat ≤ 40 * (2 * s.gridN.toNat) * (s.gridN.toNat - 10) ∧
    t.pen4.toNat ≤ 100 ∧ t.pen4.toNat % 10 = 0 ∧ t.penTotal.toNat ≤ 2519698

/-- R170: the total of an all-light or all-dark grid with `N ≥ 5`. -/
def Obligations.UniformGridScoresItsFormula : Prop :=
  ∀ (s : State) (c : Bool), s.GridReady → 5 ≤ s.gridN.toNat →
    (∀ y x, y < s.gridN.toNat → x < s.gridN.toNat → s.grid.module y x = c) →
    ∃ t, exec .penScore s = .next t ∧ t.penTotal.toNat =
      2 * s.gridN.toNat * (s.gridN.toNat - 2) + 3 * (s.gridN.toNat - 1) ^ 2 + 0 + 100

/-- R32: the penalty rules are unchanged by transposition and by reflection of the grid, left to right or top to
bottom. -/
def Obligations.PenaltyIsUnchangedBySymmetries : Prop :=
  ∀ a b : State, a.GridReady → b.GridReady → b.gridN = a.gridN →
    ((∀ y x, y < a.gridN.toNat → x < a.gridN.toNat → b.grid.module y x = a.grid.module x y) ∨
     (∀ y x, y < a.gridN.toNat → x < a.gridN.toNat → b.grid.module y x = a.grid.module y (a.gridN.toNat - 1 - x)) ∨
     (∀ y x, y < a.gridN.toNat → x < a.gridN.toNat → b.grid.module y x = a.grid.module (a.gridN.toNat - 1 - y) x)) →
    ∃ t u, exec .penScore a = .next t ∧ exec .penScore b = .next u ∧
      u.pen1 = t.pen1 ∧ u.pen2 = t.pen2 ∧ u.pen3 = t.pen3 ∧ u.pen4 = t.pen4 ∧ u.penTotal = t.penTotal

/-! ### Selector -/

/-- R172, R174: `SEL_CLR` empties the selector; `SEL_RD` answers its valid bit, mask and total in their fields; neither changes
anything else, and neither needs anything of the state but `RUN`. -/
def Obligations.SelectorIsClearedAndRead : Prop :=
  ∀ s : State, s.faulted = false →
    exec .selClr s = .next { s with bestValid := false, bestMask := 0, bestPen := 0, resp := 0 } ∧
    ∃ v : Word, exec .selRd s = .next { s with resp := v } ∧ v.getLsbD 31 = s.bestValid ∧ v.extractLsb' 27 4 = 0 ∧
      v.extractLsb' 24 3 = s.bestMask ∧ v.extractLsb' 0 24 = s.bestPen.extractLsb' 0 24

/-- R173: `SEL_UPD` takes the candidate when there is none yet, or its total is lower, or it is equal and its index is lower;
else it changes nothing but `RESP`. -/
def Obligations.SelUpdTakesTheBetterCandidate : Prop :=
  ∀ (m : BitVec 3) (s : State), s.faulted = false → s.penValid = true →
    ((s.bestValid = false ∨ s.penTotal.toNat < s.bestPen.toNat ∨
        (s.penTotal = s.bestPen ∧ m.toNat < s.bestMask.toNat)) →
      exec (.selUpd m) s = .next { s with bestValid := true, bestMask := m, bestPen := s.penTotal, resp := 1 }) ∧
    (¬ (s.bestValid = false ∨ s.penTotal.toNat < s.bestPen.toNat ∨
        (s.penTotal = s.bestPen ∧ m.toNat < s.bestMask.toNat)) →
      exec (.selUpd m) s = .next { s with resp := 0 })

/-- R175: after `SEL_CLR` and any commands without another `SEL_CLR` or a reset, if at least one `SEL_UPD` was accepted, the
selector holds the least total offered and the least mask index offered with it, whatever the order. -/
def Obligations.SelectorKeepsTheLowestPenaltyAndIndex : Prop :=
  ∀ (s t : State) (ws rs : List Word), s.faulted = false → 0x38000000#32 ∉ ws → 0xFF000000#32 ∉ ws →
    runWords s (0x38000000#32 :: ws) = some (rs, t) → selCandidates s (0x38000000#32 :: ws) ≠ [] →
    t.bestValid = true ∧ (t.bestMask, t.bestPen.toNat) ∈ selCandidates s (0x38000000#32 :: ws) ∧
      ∀ c ∈ selCandidates s (0x38000000#32 :: ws),
        t.bestPen.toNat ≤ c.2 ∧ (c.2 = t.bestPen.toNat → t.bestMask.toNat ≤ c.1.toNat)

/-! ### The whole machine -/

/-- R25: a flag is set and cleared only by the commands its row names. -/
def Obligations.FlagsChangeOnlyByTheirCommands : Prop :=
  ∀ (s t : State) (i : Instr), exec i s = .next t →
    (t.faulted ≠ s.faulted → t.faulted = true ∨ i = .sreset) ∧
    (t.rsValid ≠ s.rsValid → (t.rsValid = true ∧ ∃ k r, i = .rsCfg k r) ∨ (t.rsValid = false ∧ i = .sreset)) ∧
    (t.synValid ≠ s.synValid → (t.synValid = true ∧ i = .rsSynd) ∨ (t.synValid = false ∧
      ((∃ k r, i = .rsCfg k r) ∨ (∃ idx byte, i = .rsWr idx byte) ∨ i = .rsEnc ∨ i = .sreset))) ∧
    (t.synZero ≠ s.synZero → (t.synZero = true ∧ i = .rsSynd) ∨ (t.synZero = false ∧
      (i = .rsSynd ∨ (∃ k r, i = .rsCfg k r) ∨ (∃ idx byte, i = .rsWr idx byte) ∨ i = .rsEnc ∨ i = .sreset))) ∧
    (t.gridValid ≠ s.gridValid → (t.gridValid = true ∧ ∃ n, i = .gridCfg n) ∨ (t.gridValid = false ∧ i = .sreset)) ∧
    (t.penValid ≠ s.penValid → (t.penValid = true ∧ i = .penScore) ∨ (t.penValid = false ∧
      ((∃ n, i = .gridCfg n) ∨ (∃ row col v, i = .gridWr row col v) ∨ i = .sreset))) ∧
    (t.bestValid ≠ s.bestValid → (t.bestValid = true ∧ ∃ m, i = .selUpd m) ∨ (t.bestValid = false ∧
      (i = .selClr ∨ i = .sreset)))

/-- R24, R26 to R29, R32 to R34, R111, R226: every register and array is written only by the commands its rule names; so the
commands of one unit leave the other units' state alone. No command touches the host's pending events (log 1). -/
def Obligations.RegistersChangeOnlyByTheirCommands : Prop :=
  ∀ (s t : State) (i : Instr), exec i s = .next t →
    t.port = s.port ∧
    ((t.faultCode ≠ s.faultCode ∨ t.faultCmd ≠ s.faultCmd) → (s.faulted = false ∧ t.faulted = true) ∨ i = .sreset) ∧
    ((t.rsK ≠ s.rsK ∨ t.rsR ≠ s.rsR ∨ t.gen ≠ s.gen) → (∃ k r, i = .rsCfg k r) ∨ i = .sreset) ∧
    (t.cw ≠ s.cw → (∃ k r, i = .rsCfg k r) ∨ (∃ idx byte, i = .rsWr idx byte) ∨ i = .rsEnc ∨ i = .sreset) ∧
    (t.syn ≠ s.syn → (∃ k r, i = .rsCfg k r) ∨ i = .rsSynd ∨ i = .sreset) ∧
    (t.gridN ≠ s.gridN → (∃ n, i = .gridCfg n) ∨ i = .sreset) ∧
    (t.grid ≠ s.grid → (∃ n, i = .gridCfg n) ∨ (∃ row col v, i = .gridWr row col v) ∨ i = .sreset) ∧
    ((t.pen1 ≠ s.pen1 ∨ t.pen2 ≠ s.pen2 ∨ t.pen3 ≠ s.pen3 ∨ t.pen4 ≠ s.pen4 ∨ t.penTotal ≠ s.penTotal) →
      (∃ n, i = .gridCfg n) ∨ i = .penScore ∨ i = .sreset) ∧
    ((t.bestMask ≠ s.bestMask ∨ t.bestPen ≠ s.bestPen) → i = .selClr ∨ (∃ m, i = .selUpd m) ∨ i = .sreset)

/-- R36: the invariant holds at reset. -/
def Obligations.ResetMeetsTheInvariant : Prop := State.reset.Inv

/-- R36: every step from a state of the invariant gives a state of the invariant, which holds the canonical form of the
model's own arrays as well (log 10). -/
def Obligations.StepKeepsTheInvariant : Prop :=
  ∀ s t : State, s.Inv → step s = .next t → t.Inv

/-- R75, R200, R206, R231: from a state of the invariant no step stops: every command word, every reset and the idle step give a
next state. The stops of the model (log 9) are of states no run reaches. -/
def Obligations.InvariantStatesNeverStop : Prop :=
  ∀ s : State, s.Inv → (∃ t, step s = .next t) ∧ ∀ w : Word, ∃ t, execWord w s = .next t

/-- R206: from a state of the invariant a response of all ones, other than `FCMD_RD`'s, means that the block is
`FAULTED`. -/
def Obligations.AllOnesMeansFaulted : Prop :=
  ∀ (s t : State) (w : Word), s.Inv → execWord w s = .next t → w ≠ 0xF2000000#32 → t.resp = 0xFFFFFFFF#32 →
    t.faulted = true

/-- R206, R228, R233: a run without `SRESET` from a running state of the invariant goes to its end, and is successful exactly when
no response but `FCMD_RD`'s is all ones. (With an `SRESET` in the list the rule's equivalence does not hold: log 11.) -/
def Obligations.RunSucceedsIffNoResponseIsAllOnes : Prop :=
  ∀ (s : State) (ws : List Word), s.Inv → s.faulted = false → 0xFF000000#32 ∉ ws →
    ∃ rs t, runWords s ws = some (rs, t) ∧
      (t.successful = true ↔ ∀ (n : Nat) (w : Word), ws[n]? = some w → w ≠ 0xF2000000#32 → rs[n]? ≠ some 0xFFFFFFFF#32)

/-- R79: the pseudo-commands' expansions do what they stand for: `RS_LOAD` leaves its bytes at `CW[0 ..]`, `GRID_ROW` makes
the modules marked dark in one row dark, and each leaves the other elements as they were. -/
def Obligations.PseudoCommandsLoadWhatTheyList : Prop :=
  (∀ (s : State) (bytes : List Byte), s.RsReady → bytes.length ≤ s.rsK.toNat + s.rsR.toNat →
    ∃ is rs t, rsLoad bytes = some is ∧ runWords s (is.map encode) = some (rs, t) ∧
      ∀ i, t.cw.read i = if i < bytes.length then bytes.getD i 0 else s.cw.read i) ∧
  (∀ (s : State) (y : Byte) (modules : List Bool), s.GridReady → y.toNat < s.gridN.toNat →
    modules.length = s.gridN.toNat →
    ∃ is rs t, gridRow y modules = some is ∧ runWords s (is.map encode) = some (rs, t) ∧
      ∀ i j, t.grid.module i j =
        if i = y.toNat ∧ modules.getD j false = true then true else s.grid.module i j)
end

