-- ==== Sys2Proof/Laws/Decode.lean ====
section
/-! SUPPORT. Words and their fields (R70): the bits of a word made of four bytes, and that the fields read back what was
put in; a word is made of its four fields. -/

namespace Sys2Proof

/-- The bits of a word made of four bytes (R70). -/
theorem getLsbD_wordOf (op f2 f1 f0 : Byte) (j : Nat) :
    (wordOf op f2 f1 f0).getLsbD j =
      if j < 8 then f0.getLsbD j else if j < 16 then f1.getLsbD (j - 8)
      else if j < 24 then f2.getLsbD (j - 16) else op.getLsbD (j - 24) := by
  unfold wordOf
  simp only [BitVec.getLsbD_append]
  split_ifs <;> first | rfl | omega

@[simp] theorem opOf_wordOf (op f2 f1 f0 : Byte) : opOf (wordOf op f2 f1 f0) = op := by
  refine BitVec.eq_of_getLsbD_eq fun j hj => ?_
  rw [opOf, BitVec.getLsbD_extractLsb', getLsbD_wordOf]
  have h1 : ¬ 24 + j < 8 := by omega
  have h2 : ¬ 24 + j < 16 := by omega
  have h3 : ¬ 24 + j < 24 := by omega
  simp [hj, h1, h2]

@[simp] theorem f2Of_wordOf (op f2 f1 f0 : Byte) : f2Of (wordOf op f2 f1 f0) = f2 := by
  refine BitVec.eq_of_getLsbD_eq fun j hj => ?_
  rw [f2Of, BitVec.getLsbD_extractLsb', getLsbD_wordOf]
  have h1 : ¬ 16 + j < 8 := by omega
  have h3 : 16 + j < 24 := by omega
  simp [hj, h1, h3]

@[simp] theorem f1Of_wordOf (op f2 f1 f0 : Byte) : f1Of (wordOf op f2 f1 f0) = f1 := by
  refine BitVec.eq_of_getLsbD_eq fun j hj => ?_
  rw [f1Of, BitVec.getLsbD_extractLsb', getLsbD_wordOf]
  have h2 : 8 + j < 16 := by omega
  simp [hj, h2]

@[simp] theorem f0Of_wordOf (op f2 f1 f0 : Byte) : f0Of (wordOf op f2 f1 f0) = f0 := by
  refine BitVec.eq_of_getLsbD_eq fun j hj => ?_
  rw [f0Of, BitVec.getLsbD_extractLsb', getLsbD_wordOf]
  simp [hj]

/-- A word is the word of its four fields (R70: the fields are all 32 bits). -/
theorem wordOf_fields (w : Word) : wordOf (opOf w) (f2Of w) (f1Of w) (f0Of w) = w := by
  refine BitVec.eq_of_getLsbD_eq fun j hj => ?_
  rw [getLsbD_wordOf]
  simp only [opOf, f2Of, f1Of, f0Of, BitVec.getLsbD_extractLsb']
  split_ifs with h1 h2 h3
  · simp [h1]
  · simp [show j - 8 < 8 by omega, show 8 + (j - 8) = j by omega]
  · simp [show j - 16 < 8 by omega, show 16 + (j - 16) = j by omega]
  · simp [show j - 24 < 8 by omega, show 24 + (j - 24) = j by omega]

/-- Bits 23:0 are zero exactly when the three operand fields are. -/
theorem low24_zero_iff (w : Word) : w.extractLsb' 0 24 = 0#24 ↔ f2Of w = 0#8 ∧ f1Of w = 0#8 ∧ f0Of w = 0#8 := by
  constructor
  · intro h
    have hb : ∀ j, j < 24 → w.getLsbD j = false := by
      intro j hj
      have := congrArg (fun v => v.getLsbD j) h
      simpa [hj] using this
    refine ⟨?_, ?_, ?_⟩ <;> refine BitVec.eq_of_getLsbD_eq fun j hj => ?_
    · simp [f2Of, hb (16 + j) (by omega)]
    · simp [f1Of, hb (8 + j) (by omega)]
    · simp [f0Of, hb j (by omega)]
  · rintro ⟨h2, h1, h0⟩
    refine BitVec.eq_of_getLsbD_eq fun j hj => ?_
    have hw := wordOf_fields w
    rw [h2, h1, h0] at hw
    rw [← hw, BitVec.getLsbD_extractLsb', getLsbD_wordOf]
    split_ifs <;> first | omega | simp

end Sys2Proof
end

