-- ==== Sys2Proof/Laws/State.lean ====
section
/-! SUPPORT. One lemma per field per named update of the state, so that no proof unfolds a record update. -/

namespace Sys2Proof.Machine

/-! ### `State.setResp` -/

@[simp] theorem setResp_resp (s : State) (v : Word) : (s.setResp v).resp = v := rfl
@[simp] theorem setResp_faulted (s : State) (v : Word) : (s.setResp v).faulted = s.faulted := rfl
@[simp] theorem setResp_faultCode (s : State) (v : Word) : (s.setResp v).faultCode = s.faultCode := rfl
@[simp] theorem setResp_faultCmd (s : State) (v : Word) : (s.setResp v).faultCmd = s.faultCmd := rfl
@[simp] theorem setResp_rsK (s : State) (v : Word) : (s.setResp v).rsK = s.rsK := rfl
@[simp] theorem setResp_rsR (s : State) (v : Word) : (s.setResp v).rsR = s.rsR := rfl
@[simp] theorem setResp_rsValid (s : State) (v : Word) : (s.setResp v).rsValid = s.rsValid := rfl
@[simp] theorem setResp_cw (s : State) (v : Word) : (s.setResp v).cw = s.cw := rfl
@[simp] theorem setResp_gen (s : State) (v : Word) : (s.setResp v).gen = s.gen := rfl
@[simp] theorem setResp_syn (s : State) (v : Word) : (s.setResp v).syn = s.syn := rfl
@[simp] theorem setResp_synValid (s : State) (v : Word) : (s.setResp v).synValid = s.synValid := rfl
@[simp] theorem setResp_synZero (s : State) (v : Word) : (s.setResp v).synZero = s.synZero := rfl
@[simp] theorem setResp_gridN (s : State) (v : Word) : (s.setResp v).gridN = s.gridN := rfl
@[simp] theorem setResp_gridValid (s : State) (v : Word) : (s.setResp v).gridValid = s.gridValid := rfl
@[simp] theorem setResp_grid (s : State) (v : Word) : (s.setResp v).grid = s.grid := rfl
@[simp] theorem setResp_pen1 (s : State) (v : Word) : (s.setResp v).pen1 = s.pen1 := rfl
@[simp] theorem setResp_pen2 (s : State) (v : Word) : (s.setResp v).pen2 = s.pen2 := rfl
@[simp] theorem setResp_pen3 (s : State) (v : Word) : (s.setResp v).pen3 = s.pen3 := rfl
@[simp] theorem setResp_pen4 (s : State) (v : Word) : (s.setResp v).pen4 = s.pen4 := rfl
@[simp] theorem setResp_penTotal (s : State) (v : Word) : (s.setResp v).penTotal = s.penTotal := rfl
@[simp] theorem setResp_penValid (s : State) (v : Word) : (s.setResp v).penValid = s.penValid := rfl
@[simp] theorem setResp_bestValid (s : State) (v : Word) : (s.setResp v).bestValid = s.bestValid := rfl
@[simp] theorem setResp_bestMask (s : State) (v : Word) : (s.setResp v).bestMask = s.bestMask := rfl
@[simp] theorem setResp_bestPen (s : State) (v : Word) : (s.setResp v).bestPen = s.bestPen := rfl
@[simp] theorem setResp_port (s : State) (v : Word) : (s.setResp v).port = s.port := rfl

/-! ### `State.raise` -/

@[simp] theorem raise_resp (s : State) (c : Cause) (w : Word) : (s.raise c w).resp = allOnes := rfl
@[simp] theorem raise_faulted (s : State) (c : Cause) (w : Word) : (s.raise c w).faulted = true := rfl
@[simp] theorem raise_faultCode (s : State) (c : Cause) (w : Word) : (s.raise c w).faultCode = c.code := rfl
@[simp] theorem raise_faultCmd (s : State) (c : Cause) (w : Word) : (s.raise c w).faultCmd = w := rfl
@[simp] theorem raise_rsK (s : State) (c : Cause) (w : Word) : (s.raise c w).rsK = s.rsK := rfl
@[simp] theorem raise_rsR (s : State) (c : Cause) (w : Word) : (s.raise c w).rsR = s.rsR := rfl
@[simp] theorem raise_rsValid (s : State) (c : Cause) (w : Word) : (s.raise c w).rsValid = s.rsValid := rfl
@[simp] theorem raise_cw (s : State) (c : Cause) (w : Word) : (s.raise c w).cw = s.cw := rfl
@[simp] theorem raise_gen (s : State) (c : Cause) (w : Word) : (s.raise c w).gen = s.gen := rfl
@[simp] theorem raise_syn (s : State) (c : Cause) (w : Word) : (s.raise c w).syn = s.syn := rfl
@[simp] theorem raise_synValid (s : State) (c : Cause) (w : Word) : (s.raise c w).synValid = s.synValid := rfl
@[simp] theorem raise_synZero (s : State) (c : Cause) (w : Word) : (s.raise c w).synZero = s.synZero := rfl
@[simp] theorem raise_gridN (s : State) (c : Cause) (w : Word) : (s.raise c w).gridN = s.gridN := rfl
@[simp] theorem raise_gridValid (s : State) (c : Cause) (w : Word) : (s.raise c w).gridValid = s.gridValid := rfl
@[simp] theorem raise_grid (s : State) (c : Cause) (w : Word) : (s.raise c w).grid = s.grid := rfl
@[simp] theorem raise_pen1 (s : State) (c : Cause) (w : Word) : (s.raise c w).pen1 = s.pen1 := rfl
@[simp] theorem raise_pen2 (s : State) (c : Cause) (w : Word) : (s.raise c w).pen2 = s.pen2 := rfl
@[simp] theorem raise_pen3 (s : State) (c : Cause) (w : Word) : (s.raise c w).pen3 = s.pen3 := rfl
@[simp] theorem raise_pen4 (s : State) (c : Cause) (w : Word) : (s.raise c w).pen4 = s.pen4 := rfl
@[simp] theorem raise_penTotal (s : State) (c : Cause) (w : Word) : (s.raise c w).penTotal = s.penTotal := rfl
@[simp] theorem raise_penValid (s : State) (c : Cause) (w : Word) : (s.raise c w).penValid = s.penValid := rfl
@[simp] theorem raise_bestValid (s : State) (c : Cause) (w : Word) : (s.raise c w).bestValid = s.bestValid := rfl
@[simp] theorem raise_bestMask (s : State) (c : Cause) (w : Word) : (s.raise c w).bestMask = s.bestMask := rfl
@[simp] theorem raise_bestPen (s : State) (c : Cause) (w : Word) : (s.raise c w).bestPen = s.bestPen := rfl
@[simp] theorem raise_port (s : State) (c : Cause) (w : Word) : (s.raise c w).port = s.port := rfl

/-! ### `State.ignore` -/

@[simp] theorem ignore_resp (s : State) : s.ignore.resp = allOnes := rfl
@[simp] theorem ignore_faulted (s : State) : s.ignore.faulted = s.faulted := rfl
@[simp] theorem ignore_faultCode (s : State) : s.ignore.faultCode = s.faultCode := rfl
@[simp] theorem ignore_faultCmd (s : State) : s.ignore.faultCmd = s.faultCmd := rfl
@[simp] theorem ignore_rsK (s : State) : s.ignore.rsK = s.rsK := rfl
@[simp] theorem ignore_rsR (s : State) : s.ignore.rsR = s.rsR := rfl
@[simp] theorem ignore_rsValid (s : State) : s.ignore.rsValid = s.rsValid := rfl
@[simp] theorem ignore_cw (s : State) : s.ignore.cw = s.cw := rfl
@[simp] theorem ignore_gen (s : State) : s.ignore.gen = s.gen := rfl
@[simp] theorem ignore_syn (s : State) : s.ignore.syn = s.syn := rfl
@[simp] theorem ignore_synValid (s : State) : s.ignore.synValid = s.synValid := rfl
@[simp] theorem ignore_synZero (s : State) : s.ignore.synZero = s.synZero := rfl
@[simp] theorem ignore_gridN (s : State) : s.ignore.gridN = s.gridN := rfl
@[simp] theorem ignore_gridValid (s : State) : s.ignore.gridValid = s.gridValid := rfl
@[simp] theorem ignore_grid (s : State) : s.ignore.grid = s.grid := rfl
@[simp] theorem ignore_pen1 (s : State) : s.ignore.pen1 = s.pen1 := rfl
@[simp] theorem ignore_pen2 (s : State) : s.ignore.pen2 = s.pen2 := rfl
@[simp] theorem ignore_pen3 (s : State) : s.ignore.pen3 = s.pen3 := rfl
@[simp] theorem ignore_pen4 (s : State) : s.ignore.pen4 = s.pen4 := rfl
@[simp] theorem ignore_penTotal (s : State) : s.ignore.penTotal = s.penTotal := rfl
@[simp] theorem ignore_penValid (s : State) : s.ignore.penValid = s.penValid := rfl
@[simp] theorem ignore_bestValid (s : State) : s.ignore.bestValid = s.bestValid := rfl
@[simp] theorem ignore_bestMask (s : State) : s.ignore.bestMask = s.bestMask := rfl
@[simp] theorem ignore_bestPen (s : State) : s.ignore.bestPen = s.bestPen := rfl
@[simp] theorem ignore_port (s : State) : s.ignore.port = s.port := rfl

/-! ### `State.staleSyndromes` -/

@[simp] theorem staleSyndromes_resp (s : State) : s.staleSyndromes.resp = s.resp := rfl
@[simp] theorem staleSyndromes_faulted (s : State) : s.staleSyndromes.faulted = s.faulted := rfl
@[simp] theorem staleSyndromes_faultCode (s : State) : s.staleSyndromes.faultCode = s.faultCode := rfl
@[simp] theorem staleSyndromes_faultCmd (s : State) : s.staleSyndromes.faultCmd = s.faultCmd := rfl
@[simp] theorem staleSyndromes_rsK (s : State) : s.staleSyndromes.rsK = s.rsK := rfl
@[simp] theorem staleSyndromes_rsR (s : State) : s.staleSyndromes.rsR = s.rsR := rfl
@[simp] theorem staleSyndromes_rsValid (s : State) : s.staleSyndromes.rsValid = s.rsValid := rfl
@[simp] theorem staleSyndromes_cw (s : State) : s.staleSyndromes.cw = s.cw := rfl
@[simp] theorem staleSyndromes_gen (s : State) : s.staleSyndromes.gen = s.gen := rfl
@[simp] theorem staleSyndromes_syn (s : State) : s.staleSyndromes.syn = s.syn := rfl
@[simp] theorem staleSyndromes_synValid (s : State) : s.staleSyndromes.synValid = false := rfl
@[simp] theorem staleSyndromes_synZero (s : State) : s.staleSyndromes.synZero = false := rfl
@[simp] theorem staleSyndromes_gridN (s : State) : s.staleSyndromes.gridN = s.gridN := rfl
@[simp] theorem staleSyndromes_gridValid (s : State) : s.staleSyndromes.gridValid = s.gridValid := rfl
@[simp] theorem staleSyndromes_grid (s : State) : s.staleSyndromes.grid = s.grid := rfl
@[simp] theorem staleSyndromes_pen1 (s : State) : s.staleSyndromes.pen1 = s.pen1 := rfl
@[simp] theorem staleSyndromes_pen2 (s : State) : s.staleSyndromes.pen2 = s.pen2 := rfl
@[simp] theorem staleSyndromes_pen3 (s : State) : s.staleSyndromes.pen3 = s.pen3 := rfl
@[simp] theorem staleSyndromes_pen4 (s : State) : s.staleSyndromes.pen4 = s.pen4 := rfl
@[simp] theorem staleSyndromes_penTotal (s : State) : s.staleSyndromes.penTotal = s.penTotal := rfl
@[simp] theorem staleSyndromes_penValid (s : State) : s.staleSyndromes.penValid = s.penValid := rfl
@[simp] theorem staleSyndromes_bestValid (s : State) : s.staleSyndromes.bestValid = s.bestValid := rfl
@[simp] theorem staleSyndromes_bestMask (s : State) : s.staleSyndromes.bestMask = s.bestMask := rfl
@[simp] theorem staleSyndromes_bestPen (s : State) : s.staleSyndromes.bestPen = s.bestPen := rfl
@[simp] theorem staleSyndromes_port (s : State) : s.staleSyndromes.port = s.port := rfl

/-! ### `State.stalePenalty` -/

@[simp] theorem stalePenalty_resp (s : State) : s.stalePenalty.resp = s.resp := rfl
@[simp] theorem stalePenalty_faulted (s : State) : s.stalePenalty.faulted = s.faulted := rfl
@[simp] theorem stalePenalty_faultCode (s : State) : s.stalePenalty.faultCode = s.faultCode := rfl
@[simp] theorem stalePenalty_faultCmd (s : State) : s.stalePenalty.faultCmd = s.faultCmd := rfl
@[simp] theorem stalePenalty_rsK (s : State) : s.stalePenalty.rsK = s.rsK := rfl
@[simp] theorem stalePenalty_rsR (s : State) : s.stalePenalty.rsR = s.rsR := rfl
@[simp] theorem stalePenalty_rsValid (s : State) : s.stalePenalty.rsValid = s.rsValid := rfl
@[simp] theorem stalePenalty_cw (s : State) : s.stalePenalty.cw = s.cw := rfl
@[simp] theorem stalePenalty_gen (s : State) : s.stalePenalty.gen = s.gen := rfl
@[simp] theorem stalePenalty_syn (s : State) : s.stalePenalty.syn = s.syn := rfl
@[simp] theorem stalePenalty_synValid (s : State) : s.stalePenalty.synValid = s.synValid := rfl
@[simp] theorem stalePenalty_synZero (s : State) : s.stalePenalty.synZero = s.synZero := rfl
@[simp] theorem stalePenalty_gridN (s : State) : s.stalePenalty.gridN = s.gridN := rfl
@[simp] theorem stalePenalty_gridValid (s : State) : s.stalePenalty.gridValid = s.gridValid := rfl
@[simp] theorem stalePenalty_grid (s : State) : s.stalePenalty.grid = s.grid := rfl
@[simp] theorem stalePenalty_pen1 (s : State) : s.stalePenalty.pen1 = s.pen1 := rfl
@[simp] theorem stalePenalty_pen2 (s : State) : s.stalePenalty.pen2 = s.pen2 := rfl
@[simp] theorem stalePenalty_pen3 (s : State) : s.stalePenalty.pen3 = s.pen3 := rfl
@[simp] theorem stalePenalty_pen4 (s : State) : s.stalePenalty.pen4 = s.pen4 := rfl
@[simp] theorem stalePenalty_penTotal (s : State) : s.stalePenalty.penTotal = s.penTotal := rfl
@[simp] theorem stalePenalty_penValid (s : State) : s.stalePenalty.penValid = false := rfl
@[simp] theorem stalePenalty_bestValid (s : State) : s.stalePenalty.bestValid = s.bestValid := rfl
@[simp] theorem stalePenalty_bestMask (s : State) : s.stalePenalty.bestMask = s.bestMask := rfl
@[simp] theorem stalePenalty_bestPen (s : State) : s.stalePenalty.bestPen = s.bestPen := rfl
@[simp] theorem stalePenalty_port (s : State) : s.stalePenalty.port = s.port := rfl

/-! ### `State.withPort` -/

@[simp] theorem withPort_resp (s : State) (rest : List PortEvent) : (s.withPort rest).resp = s.resp := rfl
@[simp] theorem withPort_faulted (s : State) (rest : List PortEvent) : (s.withPort rest).faulted = s.faulted := rfl
@[simp] theorem withPort_faultCode (s : State) (rest : List PortEvent) : (s.withPort rest).faultCode = s.faultCode := rfl
@[simp] theorem withPort_faultCmd (s : State) (rest : List PortEvent) : (s.withPort rest).faultCmd = s.faultCmd := rfl
@[simp] theorem withPort_rsK (s : State) (rest : List PortEvent) : (s.withPort rest).rsK = s.rsK := rfl
@[simp] theorem withPort_rsR (s : State) (rest : List PortEvent) : (s.withPort rest).rsR = s.rsR := rfl
@[simp] theorem withPort_rsValid (s : State) (rest : List PortEvent) : (s.withPort rest).rsValid = s.rsValid := rfl
@[simp] theorem withPort_cw (s : State) (rest : List PortEvent) : (s.withPort rest).cw = s.cw := rfl
@[simp] theorem withPort_gen (s : State) (rest : List PortEvent) : (s.withPort rest).gen = s.gen := rfl
@[simp] theorem withPort_syn (s : State) (rest : List PortEvent) : (s.withPort rest).syn = s.syn := rfl
@[simp] theorem withPort_synValid (s : State) (rest : List PortEvent) : (s.withPort rest).synValid = s.synValid := rfl
@[simp] theorem withPort_synZero (s : State) (rest : List PortEvent) : (s.withPort rest).synZero = s.synZero := rfl
@[simp] theorem withPort_gridN (s : State) (rest : List PortEvent) : (s.withPort rest).gridN = s.gridN := rfl
@[simp] theorem withPort_gridValid (s : State) (rest : List PortEvent) : (s.withPort rest).gridValid = s.gridValid := rfl
@[simp] theorem withPort_grid (s : State) (rest : List PortEvent) : (s.withPort rest).grid = s.grid := rfl
@[simp] theorem withPort_pen1 (s : State) (rest : List PortEvent) : (s.withPort rest).pen1 = s.pen1 := rfl
@[simp] theorem withPort_pen2 (s : State) (rest : List PortEvent) : (s.withPort rest).pen2 = s.pen2 := rfl
@[simp] theorem withPort_pen3 (s : State) (rest : List PortEvent) : (s.withPort rest).pen3 = s.pen3 := rfl
@[simp] theorem withPort_pen4 (s : State) (rest : List PortEvent) : (s.withPort rest).pen4 = s.pen4 := rfl
@[simp] theorem withPort_penTotal (s : State) (rest : List PortEvent) : (s.withPort rest).penTotal = s.penTotal := rfl
@[simp] theorem withPort_penValid (s : State) (rest : List PortEvent) : (s.withPort rest).penValid = s.penValid := rfl
@[simp] theorem withPort_bestValid (s : State) (rest : List PortEvent) : (s.withPort rest).bestValid = s.bestValid := rfl
@[simp] theorem withPort_bestMask (s : State) (rest : List PortEvent) : (s.withPort rest).bestMask = s.bestMask := rfl
@[simp] theorem withPort_bestPen (s : State) (rest : List PortEvent) : (s.withPort rest).bestPen = s.bestPen := rfl
@[simp] theorem withPort_port (s : State) (rest : List PortEvent) : (s.withPort rest).port = rest := rfl

/-! ### `State.configureRs` -/

@[simp] theorem configureRs_resp (s : State) (k r : Byte) : (s.configureRs k r).resp = s.resp := rfl
@[simp] theorem configureRs_faulted (s : State) (k r : Byte) : (s.configureRs k r).faulted = s.faulted := rfl
@[simp] theorem configureRs_faultCode (s : State) (k r : Byte) : (s.configureRs k r).faultCode = s.faultCode := rfl
@[simp] theorem configureRs_faultCmd (s : State) (k r : Byte) : (s.configureRs k r).faultCmd = s.faultCmd := rfl
@[simp] theorem configureRs_rsK (s : State) (k r : Byte) : (s.configureRs k r).rsK = k := rfl
@[simp] theorem configureRs_rsR (s : State) (k r : Byte) : (s.configureRs k r).rsR = r := rfl
@[simp] theorem configureRs_rsValid (s : State) (k r : Byte) : (s.configureRs k r).rsValid = true := rfl
@[simp] theorem configureRs_cw (s : State) (k r : Byte) : (s.configureRs k r).cw = [] := rfl
@[simp] theorem configureRs_gen (s : State) (k r : Byte) : (s.configureRs k r).gen = Memory.writeFrom [] 0 (genPoly r.toNat) := rfl
@[simp] theorem configureRs_syn (s : State) (k r : Byte) : (s.configureRs k r).syn = [] := rfl
@[simp] theorem configureRs_synValid (s : State) (k r : Byte) : (s.configureRs k r).synValid = false := rfl
@[simp] theorem configureRs_synZero (s : State) (k r : Byte) : (s.configureRs k r).synZero = false := rfl
@[simp] theorem configureRs_gridN (s : State) (k r : Byte) : (s.configureRs k r).gridN = s.gridN := rfl
@[simp] theorem configureRs_gridValid (s : State) (k r : Byte) : (s.configureRs k r).gridValid = s.gridValid := rfl
@[simp] theorem configureRs_grid (s : State) (k r : Byte) : (s.configureRs k r).grid = s.grid := rfl
@[simp] theorem configureRs_pen1 (s : State) (k r : Byte) : (s.configureRs k r).pen1 = s.pen1 := rfl
@[simp] theorem configureRs_pen2 (s : State) (k r : Byte) : (s.configureRs k r).pen2 = s.pen2 := rfl
@[simp] theorem configureRs_pen3 (s : State) (k r : Byte) : (s.configureRs k r).pen3 = s.pen3 := rfl
@[simp] theorem configureRs_pen4 (s : State) (k r : Byte) : (s.configureRs k r).pen4 = s.pen4 := rfl
@[simp] theorem configureRs_penTotal (s : State) (k r : Byte) : (s.configureRs k r).penTotal = s.penTotal := rfl
@[simp] theorem configureRs_penValid (s : State) (k r : Byte) : (s.configureRs k r).penValid = s.penValid := rfl
@[simp] theorem configureRs_bestValid (s : State) (k r : Byte) : (s.configureRs k r).bestValid = s.bestValid := rfl
@[simp] theorem configureRs_bestMask (s : State) (k r : Byte) : (s.configureRs k r).bestMask = s.bestMask := rfl
@[simp] theorem configureRs_bestPen (s : State) (k r : Byte) : (s.configureRs k r).bestPen = s.bestPen := rfl
@[simp] theorem configureRs_port (s : State) (k r : Byte) : (s.configureRs k r).port = s.port := rfl

/-! ### `State.writeCw` -/

@[simp] theorem writeCw_resp (s : State) (i : Nat) (v : Byte) : (s.writeCw i v).resp = s.resp := rfl
@[simp] theorem writeCw_faulted (s : State) (i : Nat) (v : Byte) : (s.writeCw i v).faulted = s.faulted := rfl
@[simp] theorem writeCw_faultCode (s : State) (i : Nat) (v : Byte) : (s.writeCw i v).faultCode = s.faultCode := rfl
@[simp] theorem writeCw_faultCmd (s : State) (i : Nat) (v : Byte) : (s.writeCw i v).faultCmd = s.faultCmd := rfl
@[simp] theorem writeCw_rsK (s : State) (i : Nat) (v : Byte) : (s.writeCw i v).rsK = s.rsK := rfl
@[simp] theorem writeCw_rsR (s : State) (i : Nat) (v : Byte) : (s.writeCw i v).rsR = s.rsR := rfl
@[simp] theorem writeCw_rsValid (s : State) (i : Nat) (v : Byte) : (s.writeCw i v).rsValid = s.rsValid := rfl
@[simp] theorem writeCw_cw (s : State) (i : Nat) (v : Byte) : (s.writeCw i v).cw = s.cw.write i v := rfl
@[simp] theorem writeCw_gen (s : State) (i : Nat) (v : Byte) : (s.writeCw i v).gen = s.gen := rfl
@[simp] theorem writeCw_syn (s : State) (i : Nat) (v : Byte) : (s.writeCw i v).syn = s.syn := rfl
@[simp] theorem writeCw_synValid (s : State) (i : Nat) (v : Byte) : (s.writeCw i v).synValid = s.synValid := rfl
@[simp] theorem writeCw_synZero (s : State) (i : Nat) (v : Byte) : (s.writeCw i v).synZero = s.synZero := rfl
@[simp] theorem writeCw_gridN (s : State) (i : Nat) (v : Byte) : (s.writeCw i v).gridN = s.gridN := rfl
@[simp] theorem writeCw_gridValid (s : State) (i : Nat) (v : Byte) : (s.writeCw i v).gridValid = s.gridValid := rfl
@[simp] theorem writeCw_grid (s : State) (i : Nat) (v : Byte) : (s.writeCw i v).grid = s.grid := rfl
@[simp] theorem writeCw_pen1 (s : State) (i : Nat) (v : Byte) : (s.writeCw i v).pen1 = s.pen1 := rfl
@[simp] theorem writeCw_pen2 (s : State) (i : Nat) (v : Byte) : (s.writeCw i v).pen2 = s.pen2 := rfl
@[simp] theorem writeCw_pen3 (s : State) (i : Nat) (v : Byte) : (s.writeCw i v).pen3 = s.pen3 := rfl
@[simp] theorem writeCw_pen4 (s : State) (i : Nat) (v : Byte) : (s.writeCw i v).pen4 = s.pen4 := rfl
@[simp] theorem writeCw_penTotal (s : State) (i : Nat) (v : Byte) : (s.writeCw i v).penTotal = s.penTotal := rfl
@[simp] theorem writeCw_penValid (s : State) (i : Nat) (v : Byte) : (s.writeCw i v).penValid = s.penValid := rfl
@[simp] theorem writeCw_bestValid (s : State) (i : Nat) (v : Byte) : (s.writeCw i v).bestValid = s.bestValid := rfl
@[simp] theorem writeCw_bestMask (s : State) (i : Nat) (v : Byte) : (s.writeCw i v).bestMask = s.bestMask := rfl
@[simp] theorem writeCw_bestPen (s : State) (i : Nat) (v : Byte) : (s.writeCw i v).bestPen = s.bestPen := rfl
@[simp] theorem writeCw_port (s : State) (i : Nat) (v : Byte) : (s.writeCw i v).port = s.port := rfl

/-! ### `State.storeParity` -/

@[simp] theorem storeParity_resp (s : State) : s.storeParity.resp = s.resp := rfl
@[simp] theorem storeParity_faulted (s : State) : s.storeParity.faulted = s.faulted := rfl
@[simp] theorem storeParity_faultCode (s : State) : s.storeParity.faultCode = s.faultCode := rfl
@[simp] theorem storeParity_faultCmd (s : State) : s.storeParity.faultCmd = s.faultCmd := rfl
@[simp] theorem storeParity_rsK (s : State) : s.storeParity.rsK = s.rsK := rfl
@[simp] theorem storeParity_rsR (s : State) : s.storeParity.rsR = s.rsR := rfl
@[simp] theorem storeParity_rsValid (s : State) : s.storeParity.rsValid = s.rsValid := rfl
@[simp] theorem storeParity_cw (s : State) : s.storeParity.cw = s.cw.writeFrom s.rsK.toNat (parityBytes s.genTail s.dataBytes) := rfl
@[simp] theorem storeParity_gen (s : State) : s.storeParity.gen = s.gen := rfl
@[simp] theorem storeParity_syn (s : State) : s.storeParity.syn = s.syn := rfl
@[simp] theorem storeParity_synValid (s : State) : s.storeParity.synValid = s.synValid := rfl
@[simp] theorem storeParity_synZero (s : State) : s.storeParity.synZero = s.synZero := rfl
@[simp] theorem storeParity_gridN (s : State) : s.storeParity.gridN = s.gridN := rfl
@[simp] theorem storeParity_gridValid (s : State) : s.storeParity.gridValid = s.gridValid := rfl
@[simp] theorem storeParity_grid (s : State) : s.storeParity.grid = s.grid := rfl
@[simp] theorem storeParity_pen1 (s : State) : s.storeParity.pen1 = s.pen1 := rfl
@[simp] theorem storeParity_pen2 (s : State) : s.storeParity.pen2 = s.pen2 := rfl
@[simp] theorem storeParity_pen3 (s : State) : s.storeParity.pen3 = s.pen3 := rfl
@[simp] theorem storeParity_pen4 (s : State) : s.storeParity.pen4 = s.pen4 := rfl
@[simp] theorem storeParity_penTotal (s : State) : s.storeParity.penTotal = s.penTotal := rfl
@[simp] theorem storeParity_penValid (s : State) : s.storeParity.penValid = s.penValid := rfl
@[simp] theorem storeParity_bestValid (s : State) : s.storeParity.bestValid = s.bestValid := rfl
@[simp] theorem storeParity_bestMask (s : State) : s.storeParity.bestMask = s.bestMask := rfl
@[simp] theorem storeParity_bestPen (s : State) : s.storeParity.bestPen = s.bestPen := rfl
@[simp] theorem storeParity_port (s : State) : s.storeParity.port = s.port := rfl

/-! ### `State.storeSyndromes` -/

@[simp] theorem storeSyndromes_resp (s : State) : s.storeSyndromes.resp = s.resp := rfl
@[simp] theorem storeSyndromes_faulted (s : State) : s.storeSyndromes.faulted = s.faulted := rfl
@[simp] theorem storeSyndromes_faultCode (s : State) : s.storeSyndromes.faultCode = s.faultCode := rfl
@[simp] theorem storeSyndromes_faultCmd (s : State) : s.storeSyndromes.faultCmd = s.faultCmd := rfl
@[simp] theorem storeSyndromes_rsK (s : State) : s.storeSyndromes.rsK = s.rsK := rfl
@[simp] theorem storeSyndromes_rsR (s : State) : s.storeSyndromes.rsR = s.rsR := rfl
@[simp] theorem storeSyndromes_rsValid (s : State) : s.storeSyndromes.rsValid = s.rsValid := rfl
@[simp] theorem storeSyndromes_cw (s : State) : s.storeSyndromes.cw = s.cw := rfl
@[simp] theorem storeSyndromes_gen (s : State) : s.storeSyndromes.gen = s.gen := rfl
@[simp] theorem storeSyndromes_syn (s : State) : s.storeSyndromes.syn = s.syn.writeFrom 0 (syndromes s.rsR.toNat s.codeword) := rfl
@[simp] theorem storeSyndromes_synValid (s : State) : s.storeSyndromes.synValid = true := rfl
@[simp] theorem storeSyndromes_synZero (s : State) : s.storeSyndromes.synZero = s.codewordOk := rfl
@[simp] theorem storeSyndromes_gridN (s : State) : s.storeSyndromes.gridN = s.gridN := rfl
@[simp] theorem storeSyndromes_gridValid (s : State) : s.storeSyndromes.gridValid = s.gridValid := rfl
@[simp] theorem storeSyndromes_grid (s : State) : s.storeSyndromes.grid = s.grid := rfl
@[simp] theorem storeSyndromes_pen1 (s : State) : s.storeSyndromes.pen1 = s.pen1 := rfl
@[simp] theorem storeSyndromes_pen2 (s : State) : s.storeSyndromes.pen2 = s.pen2 := rfl
@[simp] theorem storeSyndromes_pen3 (s : State) : s.storeSyndromes.pen3 = s.pen3 := rfl
@[simp] theorem storeSyndromes_pen4 (s : State) : s.storeSyndromes.pen4 = s.pen4 := rfl
@[simp] theorem storeSyndromes_penTotal (s : State) : s.storeSyndromes.penTotal = s.penTotal := rfl
@[simp] theorem storeSyndromes_penValid (s : State) : s.storeSyndromes.penValid = s.penValid := rfl
@[simp] theorem storeSyndromes_bestValid (s : State) : s.storeSyndromes.bestValid = s.bestValid := rfl
@[simp] theorem storeSyndromes_bestMask (s : State) : s.storeSyndromes.bestMask = s.bestMask := rfl
@[simp] theorem storeSyndromes_bestPen (s : State) : s.storeSyndromes.bestPen = s.bestPen := rfl
@[simp] theorem storeSyndromes_port (s : State) : s.storeSyndromes.port = s.port := rfl

/-! ### `State.configureGrid` -/

@[simp] theorem configureGrid_resp (s : State) (n : Byte) : (s.configureGrid n).resp = s.resp := rfl
@[simp] theorem configureGrid_faulted (s : State) (n : Byte) : (s.configureGrid n).faulted = s.faulted := rfl
@[simp] theorem configureGrid_faultCode (s : State) (n : Byte) : (s.configureGrid n).faultCode = s.faultCode := rfl
@[simp] theorem configureGrid_faultCmd (s : State) (n : Byte) : (s.configureGrid n).faultCmd = s.faultCmd := rfl
@[simp] theorem configureGrid_rsK (s : State) (n : Byte) : (s.configureGrid n).rsK = s.rsK := rfl
@[simp] theorem configureGrid_rsR (s : State) (n : Byte) : (s.configureGrid n).rsR = s.rsR := rfl
@[simp] theorem configureGrid_rsValid (s : State) (n : Byte) : (s.configureGrid n).rsValid = s.rsValid := rfl
@[simp] theorem configureGrid_cw (s : State) (n : Byte) : (s.configureGrid n).cw = s.cw := rfl
@[simp] theorem configureGrid_gen (s : State) (n : Byte) : (s.configureGrid n).gen = s.gen := rfl
@[simp] theorem configureGrid_syn (s : State) (n : Byte) : (s.configureGrid n).syn = s.syn := rfl
@[simp] theorem configureGrid_synValid (s : State) (n : Byte) : (s.configureGrid n).synValid = s.synValid := rfl
@[simp] theorem configureGrid_synZero (s : State) (n : Byte) : (s.configureGrid n).synZero = s.synZero := rfl
@[simp] theorem configureGrid_gridN (s : State) (n : Byte) : (s.configureGrid n).gridN = n := rfl
@[simp] theorem configureGrid_gridValid (s : State) (n : Byte) : (s.configureGrid n).gridValid = true := rfl
@[simp] theorem configureGrid_grid (s : State) (n : Byte) : (s.configureGrid n).grid = Grid.light := rfl
@[simp] theorem configureGrid_pen1 (s : State) (n : Byte) : (s.configureGrid n).pen1 = 0 := rfl
@[simp] theorem configureGrid_pen2 (s : State) (n : Byte) : (s.configureGrid n).pen2 = 0 := rfl
@[simp] theorem configureGrid_pen3 (s : State) (n : Byte) : (s.configureGrid n).pen3 = 0 := rfl
@[simp] theorem configureGrid_pen4 (s : State) (n : Byte) : (s.configureGrid n).pen4 = 0 := rfl
@[simp] theorem configureGrid_penTotal (s : State) (n : Byte) : (s.configureGrid n).penTotal = 0 := rfl
@[simp] theorem configureGrid_penValid (s : State) (n : Byte) : (s.configureGrid n).penValid = false := rfl
@[simp] theorem configureGrid_bestValid (s : State) (n : Byte) : (s.configureGrid n).bestValid = s.bestValid := rfl
@[simp] theorem configureGrid_bestMask (s : State) (n : Byte) : (s.configureGrid n).bestMask = s.bestMask := rfl
@[simp] theorem configureGrid_bestPen (s : State) (n : Byte) : (s.configureGrid n).bestPen = s.bestPen := rfl
@[simp] theorem configureGrid_port (s : State) (n : Byte) : (s.configureGrid n).port = s.port := rfl

/-! ### `State.writeModule` -/

@[simp] theorem writeModule_resp (s : State) (y x : Nat) (v : Bool) : (s.writeModule y x v).resp = s.resp := rfl
@[simp] theorem writeModule_faulted (s : State) (y x : Nat) (v : Bool) : (s.writeModule y x v).faulted = s.faulted := rfl
@[simp] theorem writeModule_faultCode (s : State) (y x : Nat) (v : Bool) : (s.writeModule y x v).faultCode = s.faultCode := rfl
@[simp] theorem writeModule_faultCmd (s : State) (y x : Nat) (v : Bool) : (s.writeModule y x v).faultCmd = s.faultCmd := rfl
@[simp] theorem writeModule_rsK (s : State) (y x : Nat) (v : Bool) : (s.writeModule y x v).rsK = s.rsK := rfl
@[simp] theorem writeModule_rsR (s : State) (y x : Nat) (v : Bool) : (s.writeModule y x v).rsR = s.rsR := rfl
@[simp] theorem writeModule_rsValid (s : State) (y x : Nat) (v : Bool) : (s.writeModule y x v).rsValid = s.rsValid := rfl
@[simp] theorem writeModule_cw (s : State) (y x : Nat) (v : Bool) : (s.writeModule y x v).cw = s.cw := rfl
@[simp] theorem writeModule_gen (s : State) (y x : Nat) (v : Bool) : (s.writeModule y x v).gen = s.gen := rfl
@[simp] theorem writeModule_syn (s : State) (y x : Nat) (v : Bool) : (s.writeModule y x v).syn = s.syn := rfl
@[simp] theorem writeModule_synValid (s : State) (y x : Nat) (v : Bool) : (s.writeModule y x v).synValid = s.synValid := rfl
@[simp] theorem writeModule_synZero (s : State) (y x : Nat) (v : Bool) : (s.writeModule y x v).synZero = s.synZero := rfl
@[simp] theorem writeModule_gridN (s : State) (y x : Nat) (v : Bool) : (s.writeModule y x v).gridN = s.gridN := rfl
@[simp] theorem writeModule_gridValid (s : State) (y x : Nat) (v : Bool) : (s.writeModule y x v).gridValid = s.gridValid := rfl
@[simp] theorem writeModule_grid (s : State) (y x : Nat) (v : Bool) : (s.writeModule y x v).grid = s.grid.put y x v := rfl
@[simp] theorem writeModule_pen1 (s : State) (y x : Nat) (v : Bool) : (s.writeModule y x v).pen1 = s.pen1 := rfl
@[simp] theorem writeModule_pen2 (s : State) (y x : Nat) (v : Bool) : (s.writeModule y x v).pen2 = s.pen2 := rfl
@[simp] theorem writeModule_pen3 (s : State) (y x : Nat) (v : Bool) : (s.writeModule y x v).pen3 = s.pen3 := rfl
@[simp] theorem writeModule_pen4 (s : State) (y x : Nat) (v : Bool) : (s.writeModule y x v).pen4 = s.pen4 := rfl
@[simp] theorem writeModule_penTotal (s : State) (y x : Nat) (v : Bool) : (s.writeModule y x v).penTotal = s.penTotal := rfl
@[simp] theorem writeModule_penValid (s : State) (y x : Nat) (v : Bool) : (s.writeModule y x v).penValid = s.penValid := rfl
@[simp] theorem writeModule_bestValid (s : State) (y x : Nat) (v : Bool) : (s.writeModule y x v).bestValid = s.bestValid := rfl
@[simp] theorem writeModule_bestMask (s : State) (y x : Nat) (v : Bool) : (s.writeModule y x v).bestMask = s.bestMask := rfl
@[simp] theorem writeModule_bestPen (s : State) (y x : Nat) (v : Bool) : (s.writeModule y x v).bestPen = s.bestPen := rfl
@[simp] theorem writeModule_port (s : State) (y x : Nat) (v : Bool) : (s.writeModule y x v).port = s.port := rfl

/-! ### `State.storeScores` -/

@[simp] theorem storeScores_resp (s : State) : s.storeScores.resp = s.resp := rfl
@[simp] theorem storeScores_faulted (s : State) : s.storeScores.faulted = s.faulted := rfl
@[simp] theorem storeScores_faultCode (s : State) : s.storeScores.faultCode = s.faultCode := rfl
@[simp] theorem storeScores_faultCmd (s : State) : s.storeScores.faultCmd = s.faultCmd := rfl
@[simp] theorem storeScores_rsK (s : State) : s.storeScores.rsK = s.rsK := rfl
@[simp] theorem storeScores_rsR (s : State) : s.storeScores.rsR = s.rsR := rfl
@[simp] theorem storeScores_rsValid (s : State) : s.storeScores.rsValid = s.rsValid := rfl
@[simp] theorem storeScores_cw (s : State) : s.storeScores.cw = s.cw := rfl
@[simp] theorem storeScores_gen (s : State) : s.storeScores.gen = s.gen := rfl
@[simp] theorem storeScores_syn (s : State) : s.storeScores.syn = s.syn := rfl
@[simp] theorem storeScores_synValid (s : State) : s.storeScores.synValid = s.synValid := rfl
@[simp] theorem storeScores_synZero (s : State) : s.storeScores.synZero = s.synZero := rfl
@[simp] theorem storeScores_gridN (s : State) : s.storeScores.gridN = s.gridN := rfl
@[simp] theorem storeScores_gridValid (s : State) : s.storeScores.gridValid = s.gridValid := rfl
@[simp] theorem storeScores_grid (s : State) : s.storeScores.grid = s.grid := rfl
@[simp] theorem storeScores_pen1 (s : State) : s.storeScores.pen1 = BitVec.ofNat 32 (rule1 s.grid s.gridN.toNat) := rfl
@[simp] theorem storeScores_pen2 (s : State) : s.storeScores.pen2 = BitVec.ofNat 32 (rule2 s.grid s.gridN.toNat) := rfl
@[simp] theorem storeScores_pen3 (s : State) : s.storeScores.pen3 = BitVec.ofNat 32 (rule3 s.grid s.gridN.toNat) := rfl
@[simp] theorem storeScores_pen4 (s : State) : s.storeScores.pen4 = BitVec.ofNat 32 (rule4 s.grid s.gridN.toNat) := rfl
theorem storeScores_penTotal (s : State) : s.storeScores.penTotal = s.storeScores.pen1 + s.storeScores.pen2 + s.storeScores.pen3 + s.storeScores.pen4 := rfl
@[simp] theorem storeScores_penValid (s : State) : s.storeScores.penValid = true := rfl
@[simp] theorem storeScores_bestValid (s : State) : s.storeScores.bestValid = s.bestValid := rfl
@[simp] theorem storeScores_bestMask (s : State) : s.storeScores.bestMask = s.bestMask := rfl
@[simp] theorem storeScores_bestPen (s : State) : s.storeScores.bestPen = s.bestPen := rfl
@[simp] theorem storeScores_port (s : State) : s.storeScores.port = s.port := rfl

/-! ### `State.clearBest` -/

@[simp] theorem clearBest_resp (s : State) : s.clearBest.resp = s.resp := rfl
@[simp] theorem clearBest_faulted (s : State) : s.clearBest.faulted = s.faulted := rfl
@[simp] theorem clearBest_faultCode (s : State) : s.clearBest.faultCode = s.faultCode := rfl
@[simp] theorem clearBest_faultCmd (s : State) : s.clearBest.faultCmd = s.faultCmd := rfl
@[simp] theorem clearBest_rsK (s : State) : s.clearBest.rsK = s.rsK := rfl
@[simp] theorem clearBest_rsR (s : State) : s.clearBest.rsR = s.rsR := rfl
@[simp] theorem clearBest_rsValid (s : State) : s.clearBest.rsValid = s.rsValid := rfl
@[simp] theorem clearBest_cw (s : State) : s.clearBest.cw = s.cw := rfl
@[simp] theorem clearBest_gen (s : State) : s.clearBest.gen = s.gen := rfl
@[simp] theorem clearBest_syn (s : State) : s.clearBest.syn = s.syn := rfl
@[simp] theorem clearBest_synValid (s : State) : s.clearBest.synValid = s.synValid := rfl
@[simp] theorem clearBest_synZero (s : State) : s.clearBest.synZero = s.synZero := rfl
@[simp] theorem clearBest_gridN (s : State) : s.clearBest.gridN = s.gridN := rfl
@[simp] theorem clearBest_gridValid (s : State) : s.clearBest.gridValid = s.gridValid := rfl
@[simp] theorem clearBest_grid (s : State) : s.clearBest.grid = s.grid := rfl
@[simp] theorem clearBest_pen1 (s : State) : s.clearBest.pen1 = s.pen1 := rfl
@[simp] theorem clearBest_pen2 (s : State) : s.clearBest.pen2 = s.pen2 := rfl
@[simp] theorem clearBest_pen3 (s : State) : s.clearBest.pen3 = s.pen3 := rfl
@[simp] theorem clearBest_pen4 (s : State) : s.clearBest.pen4 = s.pen4 := rfl
@[simp] theorem clearBest_penTotal (s : State) : s.clearBest.penTotal = s.penTotal := rfl
@[simp] theorem clearBest_penValid (s : State) : s.clearBest.penValid = s.penValid := rfl
@[simp] theorem clearBest_bestValid (s : State) : s.clearBest.bestValid = false := rfl
@[simp] theorem clearBest_bestMask (s : State) : s.clearBest.bestMask = 0 := rfl
@[simp] theorem clearBest_bestPen (s : State) : s.clearBest.bestPen = 0 := rfl
@[simp] theorem clearBest_port (s : State) : s.clearBest.port = s.port := rfl

/-! ### `State.takeBest` -/

@[simp] theorem takeBest_resp (s : State) (m : BitVec 3) : (s.takeBest m).resp = s.resp := rfl
@[simp] theorem takeBest_faulted (s : State) (m : BitVec 3) : (s.takeBest m).faulted = s.faulted := rfl
@[simp] theorem takeBest_faultCode (s : State) (m : BitVec 3) : (s.takeBest m).faultCode = s.faultCode := rfl
@[simp] theorem takeBest_faultCmd (s : State) (m : BitVec 3) : (s.takeBest m).faultCmd = s.faultCmd := rfl
@[simp] theorem takeBest_rsK (s : State) (m : BitVec 3) : (s.takeBest m).rsK = s.rsK := rfl
@[simp] theorem takeBest_rsR (s : State) (m : BitVec 3) : (s.takeBest m).rsR = s.rsR := rfl
@[simp] theorem takeBest_rsValid (s : State) (m : BitVec 3) : (s.takeBest m).rsValid = s.rsValid := rfl
@[simp] theorem takeBest_cw (s : State) (m : BitVec 3) : (s.takeBest m).cw = s.cw := rfl
@[simp] theorem takeBest_gen (s : State) (m : BitVec 3) : (s.takeBest m).gen = s.gen := rfl
@[simp] theorem takeBest_syn (s : State) (m : BitVec 3) : (s.takeBest m).syn = s.syn := rfl
@[simp] theorem takeBest_synValid (s : State) (m : BitVec 3) : (s.takeBest m).synValid = s.synValid := rfl
@[simp] theorem takeBest_synZero (s : State) (m : BitVec 3) : (s.takeBest m).synZero = s.synZero := rfl
@[simp] theorem takeBest_gridN (s : State) (m : BitVec 3) : (s.takeBest m).gridN = s.gridN := rfl
@[simp] theorem takeBest_gridValid (s : State) (m : BitVec 3) : (s.takeBest m).gridValid = s.gridValid := rfl
@[simp] theorem takeBest_grid (s : State) (m : BitVec 3) : (s.takeBest m).grid = s.grid := rfl
@[simp] theorem takeBest_pen1 (s : State) (m : BitVec 3) : (s.takeBest m).pen1 = s.pen1 := rfl
@[simp] theorem takeBest_pen2 (s : State) (m : BitVec 3) : (s.takeBest m).pen2 = s.pen2 := rfl
@[simp] theorem takeBest_pen3 (s : State) (m : BitVec 3) : (s.takeBest m).pen3 = s.pen3 := rfl
@[simp] theorem takeBest_pen4 (s : State) (m : BitVec 3) : (s.takeBest m).pen4 = s.pen4 := rfl
@[simp] theorem takeBest_penTotal (s : State) (m : BitVec 3) : (s.takeBest m).penTotal = s.penTotal := rfl
@[simp] theorem takeBest_penValid (s : State) (m : BitVec 3) : (s.takeBest m).penValid = s.penValid := rfl
@[simp] theorem takeBest_bestValid (s : State) (m : BitVec 3) : (s.takeBest m).bestValid = true := rfl
@[simp] theorem takeBest_bestMask (s : State) (m : BitVec 3) : (s.takeBest m).bestMask = m := rfl
@[simp] theorem takeBest_bestPen (s : State) (m : BitVec 3) : (s.takeBest m).bestPen = s.penTotal := rfl
@[simp] theorem takeBest_port (s : State) (m : BitVec 3) : (s.takeBest m).port = s.port := rfl

/-! ### `State.hardReset` -/

@[simp] theorem hardReset_port (s : State) : s.hardReset.port = s.port := rfl

/-- Every field but the pending port events is the reset value (R220). -/
theorem hardReset_eq (s : State) : s.hardReset = State.reset.withPort s.port := rfl

@[simp] theorem reset_resp : State.reset.resp = 0 := rfl
@[simp] theorem reset_faulted : State.reset.faulted = false := rfl
@[simp] theorem reset_faultCode : State.reset.faultCode = 0 := rfl
@[simp] theorem reset_faultCmd : State.reset.faultCmd = 0 := rfl
@[simp] theorem reset_rsK : State.reset.rsK = 0 := rfl
@[simp] theorem reset_rsR : State.reset.rsR = 0 := rfl
@[simp] theorem reset_rsValid : State.reset.rsValid = false := rfl
@[simp] theorem reset_cw : State.reset.cw = [] := rfl
@[simp] theorem reset_gen : State.reset.gen = [] := rfl
@[simp] theorem reset_syn : State.reset.syn = [] := rfl
@[simp] theorem reset_synValid : State.reset.synValid = false := rfl
@[simp] theorem reset_synZero : State.reset.synZero = false := rfl
@[simp] theorem reset_gridN : State.reset.gridN = 0 := rfl
@[simp] theorem reset_gridValid : State.reset.gridValid = false := rfl
@[simp] theorem reset_grid : State.reset.grid = Grid.light := rfl
@[simp] theorem reset_pen1 : State.reset.pen1 = 0 := rfl
@[simp] theorem reset_pen2 : State.reset.pen2 = 0 := rfl
@[simp] theorem reset_pen3 : State.reset.pen3 = 0 := rfl
@[simp] theorem reset_pen4 : State.reset.pen4 = 0 := rfl
@[simp] theorem reset_penTotal : State.reset.penTotal = 0 := rfl
@[simp] theorem reset_penValid : State.reset.penValid = false := rfl
@[simp] theorem reset_bestValid : State.reset.bestValid = false := rfl
@[simp] theorem reset_bestMask : State.reset.bestMask = 0 := rfl
@[simp] theorem reset_bestPen : State.reset.bestPen = 0 := rfl
@[simp] theorem reset_port : State.reset.port = [] := rfl

/-- A later response replaces an earlier one (R230). -/
@[simp] theorem setResp_setResp (s : State) (v w : Word) : (s.setResp v).setResp w = s.setResp w := rfl

@[simp] theorem withPort_withPort (s : State) (p q : List PortEvent) : (s.withPort p).withPort q = s.withPort q := rfl

end Sys2Proof.Machine
end

