-- ==== Sys2Proof/Laws/Ops.lean ====
section
/-! SUPPORT. One lemma per shared operation that says once everything it can answer; a proof about a meaning
rewrites with these instead of unfolding the operation. -/

namespace Sys2Proof.Machine

/-- R203: a command that executes in `RUN` only is ignored in `FAULTED` and is itself otherwise. -/
theorem whenRunning_next (s t : State) (k : Outcome) :
    whenRunning s k = .next t ↔ (s.faulted = true ∧ s.ignore = t) ∨ (s.faulted = false ∧ k = .next t) := by
  unfold whenRunning
  cases s.faulted <;> simp

@[simp] theorem whenRunning_running (s : State) (k : Outcome) (h : s.faulted = false) : whenRunning s k = k := by
  simp [whenRunning, h]

@[simp] theorem whenRunning_faulted (s : State) (k : Outcome) (h : s.faulted = true) :
    whenRunning s k = .next s.ignore := by
  simp [whenRunning, h]

/-- R72 step 4: a check that fails raises its fault, one that holds changes nothing. -/
theorem require_next (p : Prop) [Decidable p] (c : Cause) (i : Instr) (s t : State) (k : Outcome) :
    require p c i s k = .next t ↔ (¬ p ∧ s.raise c (encode i) = t) ∨ (p ∧ k = .next t) := by
  unfold require takeFault
  by_cases h : p <;> simp [h]

@[simp] theorem require_pass (p : Prop) [Decidable p] (c : Cause) (i : Instr) (s : State) (k : Outcome) (h : p) :
    require p c i s k = k := if_pos h

@[simp] theorem require_fail (p : Prop) [Decidable p] (c : Cause) (i : Instr) (s : State) (k : Outcome) (h : ¬ p) :
    require p c i s k = .next (s.raise c (encode i)) := if_neg h

/-- R50: where the elements exist the check changes nothing; it never answers a next state of its own. -/
theorem needElements_next (a : ArrayName) (n : Nat) (t : State) (k : Outcome) :
    needElements a n k = .next t ↔ n ≤ a.size ∧ k = .next t := by
  unfold needElements
  by_cases h : n ≤ a.size <;> simp [h]

@[simp] theorem needElements_pass (a : ArrayName) (n : Nat) (k : Outcome) (h : n ≤ a.size) :
    needElements a n k = k := if_pos h

/-- R75, R203: a word that is no command always gives a next state. -/
theorem illegalWord_next (w : Word) (s : State) :
    illegalWord w s = .next (if s.faulted then s.ignore else s.raise .illegalCmd w) := by
  unfold illegalWord
  cases s.faulted <;> rfl

/-- The causes have distinct codes (R201). -/
theorem Cause.code_injective (c d : Cause) (h : c.code = d.code) : c = d := by
  cases c <;> cases d <;> first | rfl | exact absurd h (by decide)

/-- The codes are 1 to 11 (R201). -/
theorem Cause.code_range (c : Cause) : 1 ≤ c.code.toNat ∧ c.code.toNat ≤ 11 := by cases c <;> decide

@[simp] theorem flagAt_true (b : Nat) : flagAt true b = 1#32 <<< b := rfl

@[simp] theorem flagAt_false (b : Nat) : flagAt false b = 0 := rfl

/-- One bit of a flag's word. -/
theorem getLsbD_flagAt (f : Bool) (b j : Nat) : (flagAt f b).getLsbD j = (decide (j < 32) && decide (j = b) && f) := by
  cases f
  · simp [flagAt]
  · by_cases hj : j < 32
    · by_cases h : j < b
      · have : ¬ j = b := by omega
        simp [flagAt, h, this]
      · by_cases h2 : j = b
        · subst h2; simp [flagAt, hj]
        · have : ¬ j - b = 0 := by omega
          simp [flagAt, h2, h, hj, this]
    · simp [hj, BitVec.getLsbD_of_ge _ _ (by omega : 32 ≤ j)]

end Sys2Proof.Machine
end

