-- ==== Sys2Proof/Laws/Exec.lean ====
section
/-! SUPPORT. Everything one command can answer, said once: it is ignored, it takes a fault, or it completes with its
own effect; a proof over all commands starts from `exec_cases` instead of unfolding the meanings. -/

namespace Sys2Proof.Machine

/-- The state in which a command completes: `RUN` (but for the four system commands of R195), and its own checks hold. -/
def completes (s : State) : Instr → Prop
  | .nop => s.faulted = false
  | .gfMul _ _ => s.faulted = false
  | .gfDiv _ b => s.faulted = false ∧ b ≠ 0x00#8
  | .gfExp _ => s.faulted = false
  | .gfLog a => s.faulted = false ∧ a ≠ 0x00#8
  | .rsCfg k r => s.faulted = false ∧ rsCfgOk k r = true
  | .rsWr idx _ => s.faulted = false ∧ s.rsValid = true ∧ s.cwIndexOk idx = true ∧ idx.toNat + 1 ≤ 255
  | .rsRd idx => s.faulted = false ∧ s.rsValid = true ∧ s.cwIndexOk idx = true ∧ idx.toNat + 1 ≤ 255
  | .rsEnc => s.faulted = false ∧ s.rsValid = true ∧ s.codewordLen ≤ 255 ∧ s.rsR.toNat + 1 ≤ 31
  | .rsSynd => s.faulted = false ∧ s.rsValid = true ∧ s.codewordLen ≤ 255 ∧ s.rsR.toNat ≤ 30
  | .rsRdsyn j => s.faulted = false ∧ s.rsValid = true ∧ s.synValid = true ∧ s.synIndexOk j = true ∧ j.toNat + 1 ≤ 30
  | .rsRdgen i => s.faulted = false ∧ s.rsValid = true ∧ s.genIndexOk i = true ∧ i.toNat + 1 ≤ 31
  | .bchFmt _ => s.faulted = false
  | .bchVer _ => s.faulted = false
  | .gridCfg n => s.faulted = false ∧ gridCfgOk n = true
  | .gridWr row col _ =>
    s.faulted = false ∧ s.gridValid = true ∧ s.gridIndexOk row col = true ∧ max row.toNat col.toNat + 1 ≤ 177
  | .gridRd row col =>
    s.faulted = false ∧ s.gridValid = true ∧ s.gridIndexOk row col = true ∧ max row.toNat col.toNat + 1 ≤ 177
  | .penScore => s.faulted = false ∧ s.gridValid = true ∧ s.gridN.toNat ≤ 177 ∧ s.gridN ≠ 0
  | .penRd sel => s.faulted = false ∧ penRdOk sel = true ∧ s.penValid = true
  | .selClr => s.faulted = false
  | .selUpd _ => s.faulted = false ∧ s.penValid = true
  | .selRd => s.faulted = false
  | .statRd => True
  | .idRd => True
  | .fcmdRd => True
  | .sreset => True

/-- The state after a command that completes. -/
def effect (s : State) : Instr → State
  | .nop => s.setResp 0
  | .gfMul a b => s.setResp (zext (gfMul a b))
  | .gfDiv a b => s.setResp (zext (gfDiv a b))
  | .gfExp i => s.setResp (zext (expTable i.toNat))
  | .gfLog a => s.setResp (BitVec.ofNat 32 (logTable a))
  | .rsCfg k r => (s.configureRs k r).setResp 0
  | .rsWr idx byte => (s.writeCw idx.toNat byte).staleSyndromes.setResp 0
  | .rsRd idx => s.setResp (zext (s.cw.read idx.toNat))
  | .rsEnc => s.storeParity.staleSyndromes.setResp 0
  | .rsSynd => s.storeSyndromes.setResp (flagAt s.codewordOk 0)
  | .rsRdsyn j => s.setResp (zext (s.syn.read j.toNat))
  | .rsRdgen i => s.setResp (zext (s.gen.read i.toNat))
  | .bchFmt d => s.setResp (BitVec.ofNat 32 (formatWord d.toNat))
  | .bchVer v => s.setResp (BitVec.ofNat 32 (versionWord v.toNat))
  | .gridCfg n => (s.configureGrid n).setResp 0
  | .gridWr row col v => (s.writeModule row.toNat col.toNat (moduleOf v)).stalePenalty.setResp 0
  | .gridRd row col => s.setResp (flagAt (s.grid.module row.toNat col.toNat) 0)
  | .penScore => s.storeScores.setResp s.storeScores.penTotal
  | .penRd sel => s.setResp (s.penalty sel)
  | .selClr => s.clearBest.setResp 0
  | .selUpd m => if s.improves m then (s.takeBest m).setResp 1 else s.setResp 0
  | .selRd => s.setResp s.bestWord
  | .statRd => s.setResp s.status
  | .idRd => s.setResp Config.idValue
  | .fcmdRd => s.setResp s.faultCmd
  | .sreset => s.hardReset

/-- Completion: a command whose checks hold answers its effect. -/
theorem exec_of_completes (s : State) (i : Instr) (h : completes s i) : exec i s = .next (effect s i) := by
  cases i <;> simp only [completes] at h <;>
    simp_all [exec, effect, execNop, execGfMul, execGfDiv, execGfExp, execGfLog, execRsCfg, execRsWr, execRsRd,
      execRsEnc, execRsSynd, execRsRdsyn, execRsRdgen, execBchFmt, execBchVer, execGridCfg, execGridWr, execGridRd,
      execPenScore, execPenRd, execSelClr, execSelUpd, execSelRd, execStatRd, execIdRd, execFcmdRd, execSreset,
      needElements, ArrayName.size]

/-- Inversion: a command that answers a next state was ignored in `FAULTED` (R203), or took a fault in `RUN` (R204), or
completed. -/
theorem exec_cases {s t : State} {i : Instr} (h : exec i s = .next t) :
    (s.faulted = true ∧ t = s.ignore) ∨ (s.faulted = false ∧ ∃ c, t = s.raise c (encode i)) ∨
      (completes s i ∧ t = effect s i) := by
  by_cases hc : completes s i
  · rw [exec_of_completes s i hc] at h
    exact .inr (.inr ⟨hc, by simpa using h.symm⟩)
  · cases hf : s.faulted
    · refine .inr (.inl ⟨rfl, ?_⟩)
      cases i <;>
        simp only [exec, completes, execNop, execGfMul, execGfDiv, execGfExp, execGfLog, execRsCfg, execRsWr, execRsRd,
          execRsEnc, execRsSynd, execRsRdsyn, execRsRdgen, execBchFmt, execBchVer, execGridCfg, execGridWr, execGridRd,
          execPenScore, execPenRd, execSelClr, execSelUpd, execSelRd, execStatRd, execIdRd, execFcmdRd, execSreset,
          needElements_next, require_next, whenRunning_running _ _ hf, ArrayName.size] at h hc
      all_goals repeat (rcases h with ⟨-, rfl⟩ | ⟨_, h⟩; · exact ⟨_, rfl⟩)
      all_goals simp_all
    · refine .inl ⟨rfl, ?_⟩
      cases i <;>
        simp_all [exec, completes, execNop, execGfMul, execGfDiv, execGfExp, execGfLog, execRsCfg, execRsWr, execRsRd,
          execRsEnc, execRsSynd, execRsRdsyn, execRsRdgen, execBchFmt, execBchVer, execGridCfg, execGridWr, execGridRd,
          execPenScore, execPenRd, execSelClr, execSelUpd, execSelRd]

end Sys2Proof.Machine
end

