-- ==== Sys2Proof/Laws/Grid.lean ====
section
/-! SUPPORT. What reading and writing one module of the grid do. -/

namespace Sys2Proof.Machine

theorem getLsbD_rowPut (row : BitVec 177) (x j : Nat) (v : Bool) (hx : x < 177) :
    (rowPut row x v).getLsbD j = if j = x then v else row.getLsbD j := by
  by_cases hj : j < 177
  · by_cases h : j = x
    · subst h; cases v <;> simp [rowPut, hx]
    · by_cases h2 : j < x
      · cases v <;> simp [rowPut, h, h2, hj]
      · have : ¬ j - x = 0 := by omega
        cases v <;> simp [rowPut, h, h2, hj, this]
  · have h : ¬ j = x := by omega
    simp [h, BitVec.getLsbD_of_ge _ _ (by omega : 177 ≤ j)]

/-- A read after a write of one module of the array (R63): that module has the colour, every other the one it had. -/
theorem Grid.module_put (g : Grid) (y x : Nat) (v : Bool) (i j : Nat) (hy : y < 177) (hx : x < 177) :
    (g.put y x v).module i j = if i = y ∧ j = x then v else g.module i j := by
  have hg : g[y]? = some g[y] := by simp [hy]
  simp only [Grid.put, hg, Grid.module]
  by_cases h : i = y
  · subst h
    rw [Vector.getElem?_setIfInBounds_self_of_lt hy, hg]
    simp [getLsbD_rowPut _ _ _ _ hx]
  · have : ¬ y = i := fun e => h e.symm
    rw [Vector.getElem?_setIfInBounds_ne this]
    simp [h]

/-- Every module of the cleared grid is light. -/
@[simp] theorem Grid.module_light (y x : Nat) : Grid.light.module y x = false := by
  unfold Grid.module Grid.light
  rw [Vector.getElem?_replicate]
  by_cases h : y < 177 <;> simp [h]

/-- Outside the array there is no module. -/
theorem Grid.module_outside (g : Grid) (y x : Nat) (h : 177 ≤ y ∨ 177 ≤ x) : g.module y x = false := by
  unfold Grid.module
  split
  next row hr =>
    rcases h with h | h
    · simp [h] at hr
    · exact BitVec.getLsbD_of_ge _ _ h
  · rfl

/-- Equal grids are equal data: two grids with the same modules are the same vector. -/
theorem Grid.ext_module {g g' : Grid} (h : ∀ y x, y < 177 → x < 177 → g.module y x = g'.module y x) : g = g' := by
  ext y hy x hx
  have := h y x hy hx
  simpa [Grid.module, hy, BitVec.getLsbD_eq_getElem hx] using this

end Sys2Proof.Machine
end

