-- ==== Sys2Proof/Laws/Memory.lean ====
section
/-! SUPPORT. What reading and writing a byte array do: a read after a write, the canonical form kept by every
operation, and that the canonical form makes equal arrays equal data. -/

namespace Sys2Proof.Machine

/-! ### Reads -/

@[simp] theorem Memory.read_nil (i : Nat) : Memory.read [] i = 0 := rfl

theorem Memory.read_erase (m : Memory) (i j : Nat) :
    (m.erase i).read j = if j = i then 0 else m.read j := by
  induction m with
  | nil => simp [Memory.erase]
  | cons c m ih =>
    obtain ⟨b, x⟩ := c
    simp only [Memory.erase] at ih
    by_cases hb : b = i
    · subst hb
      by_cases hj : j = b
      · subst hj; simpa [Memory.erase] using ih
      · have : ¬ b = j := fun h => hj h.symm
        simpa [Memory.erase, Memory.read, hj, this] using ih
    · by_cases hj : b = j
      · subst hj; simp [Memory.erase, Memory.read, hb]
      · simpa [Memory.erase, Memory.read, hb, hj] using ih

/-- Listing a value at an index that is not listed. -/
theorem Memory.read_insert (m : Memory) (i j : Nat) (v : Byte) (h : ∀ c ∈ m, c.1 ≠ i) :
    (m.insert i v).read j = if j = i then v else m.read j := by
  induction m with
  | nil =>
    by_cases hj : j = i
    · simp [Memory.insert, Memory.read, hj]
    · have : ¬ i = j := fun e => hj e.symm
      simp [Memory.insert, Memory.read, hj, this, Memory.unlisted]
  | cons c m ih =>
    obtain ⟨b, x⟩ := c
    have hb : b ≠ i := h (b, x) (by simp)
    have ih := ih (fun c hc => h c (by simp [hc]))
    by_cases hlt : i < b
    · by_cases hj : j = i
      · simp [Memory.insert, Memory.read, hlt, hj]
      · have : ¬ i = j := fun e => hj e.symm
        simp [Memory.insert, Memory.read, hlt, hj, this]
    · by_cases hj : b = j
      · subst hj; simp [Memory.insert, Memory.read, hlt, hb]
      · simp [Memory.insert, Memory.read, hlt, hj, ih]

theorem Memory.erase_not_listed (m : Memory) (i : Nat) : ∀ c ∈ m.erase i, c.1 ≠ i := by
  intro c hc
  simpa using (List.mem_filter.1 hc).2

/-- A read after a write (R63): the element written holds the value, every other element what it held. -/
@[simp] theorem Memory.read_write (m : Memory) (i j : Nat) (v : Byte) :
    (m.write i v).read j = if j = i then v else m.read j := by
  unfold Memory.write
  split
  next h =>
    rw [Memory.read_erase]
    simp [h, Memory.unlisted]
  next h =>
    rw [Memory.read_insert _ _ _ _ (Memory.erase_not_listed m i), Memory.read_erase]
    by_cases hj : j = i <;> simp [hj]

/-- A read after consecutive writes. -/
theorem Memory.read_writeFrom (vs : List Byte) (m : Memory) (i j : Nat) :
    (m.writeFrom i vs).read j = if i ≤ j ∧ j < i + vs.length then vs.getD (j - i) 0 else m.read j := by
  induction vs generalizing m i with
  | nil =>
    have : ¬ (i ≤ j ∧ j < i + ([] : List Byte).length) := by simp
    rw [if_neg this, Memory.writeFrom]
  | cons v vs ih =>
    rw [Memory.writeFrom, ih, Memory.read_write]
    by_cases h1 : j = i
    · subst h1; simp
    · by_cases h2 : i + 1 ≤ j ∧ j < i + 1 + vs.length
      · have h3 : i ≤ j ∧ j < i + (v :: vs).length := by simp; omega
        have h4 : j - i = (j - (i + 1)) + 1 := by omega
        simp only [h2, and_self, if_true, h3, h4, List.getD_cons_succ]
      · have h3 : ¬ (i ≤ j ∧ j < i + (v :: vs).length) := by simp; omega
        simp only [h2, h3, if_false, h1]

@[simp] theorem Memory.slice_length (m : Memory) (i n : Nat) : (m.slice i n).length = n := by simp [Memory.slice]

theorem Memory.slice_getD (m : Memory) (i n j : Nat) (h : j < n) : (m.slice i n).getD j 0 = m.read (i + j) := by
  simp [Memory.slice, List.getD, h]

/-- Two arrays with the same elements have the same slices. -/
theorem Memory.slice_congr {m m' : Memory} {i n : Nat} (h : ∀ j, i ≤ j → j < i + n → m.read j = m'.read j) :
    m.slice i n = m'.slice i n := by
  refine List.map_congr_left fun j hj => h _ (by omega) ?_
  have := List.mem_range.1 hj
  omega

/-! ### The canonical form -/

theorem Memory.rising_cons (a : Host.Cell) (m : Memory) :
    Memory.rising (a :: m) = true ↔ (∀ c ∈ m, a.1 < c.1) ∧ Memory.rising m = true := by
  induction m generalizing a with
  | nil => simp [Memory.rising]
  | cons b m ih =>
    simp only [Memory.rising, Bool.and_eq_true, decide_eq_true_eq, List.forall_mem_cons]
    constructor
    · rintro ⟨hab, hm⟩
      exact ⟨⟨hab, fun c hc => Nat.lt_trans hab (((ih b).1 hm).1 c hc)⟩, hm⟩
    · rintro ⟨⟨hab, _⟩, hm⟩
      exact ⟨hab, hm⟩

/-- The canonical form, cell by cell. -/
theorem Memory.wf_iff (size : Nat) (m : Memory) :
    Memory.wf size m = true ↔ m.rising = true ∧ ∀ c ∈ m, c.1 < size ∧ c.2 ≠ 0 := by
  simp [Memory.wf, Memory.unlisted, List.all_eq_true]

@[simp] theorem Memory.wf_nil (size : Nat) : Memory.wf size [] = true := rfl

theorem Memory.rising_filter (p : Host.Cell → Bool) (m : Memory) (h : m.rising = true) :
    Memory.rising (m.filter p) = true := by
  induction m with
  | nil => simp [Memory.rising]
  | cons a m ih =>
    obtain ⟨ha, hm⟩ := (Memory.rising_cons a m).1 h
    by_cases hp : p a
    · rw [List.filter_cons_of_pos hp, Memory.rising_cons]
      exact ⟨fun c hc => ha c (List.mem_filter.1 hc).1, ih hm⟩
    · rw [List.filter_cons_of_neg hp]
      exact ih hm

theorem Memory.wf_erase {size : Nat} {m : Memory} (i : Nat) (h : Memory.wf size m = true) :
    Memory.wf size (m.erase i) = true := by
  rw [Memory.wf_iff] at h ⊢
  exact ⟨Memory.rising_filter _ m h.1, fun c hc => h.2 c (List.mem_filter.1 hc).1⟩

theorem Memory.mem_insert (m : Memory) (i : Nat) (v : Byte) (c : Host.Cell) :
    c ∈ m.insert i v ↔ c = (i, v) ∨ c ∈ m := by
  induction m with
  | nil => simp [Memory.insert]
  | cons a m ih =>
    by_cases h : i < a.1 <;> simp [Memory.insert, h, ih, or_left_comm]

theorem Memory.rising_insert (m : Memory) (i : Nat) (v : Byte) (hm : m.rising = true) (hi : ∀ c ∈ m, c.1 ≠ i) :
    Memory.rising (m.insert i v) = true := by
  induction m with
  | nil => simp [Memory.insert, Memory.rising]
  | cons a m ih =>
    obtain ⟨ha, hm'⟩ := (Memory.rising_cons a m).1 hm
    by_cases h : i < a.1
    · simp only [Memory.insert, h, if_true]
      rw [Memory.rising_cons]
      refine ⟨fun c hc => ?_, hm⟩
      rcases List.mem_cons.1 hc with rfl | hc
      · exact h
      · exact Nat.lt_trans h (ha c hc)
    · simp only [Memory.insert, h, if_false]
      rw [Memory.rising_cons]
      refine ⟨fun c hc => ?_, ih hm' (fun c hc => hi c (by simp [hc]))⟩
      rcases (Memory.mem_insert m i v c).1 hc with rfl | hc
      · have := hi a (by simp)
        show a.1 < i
        omega
      · exact ha c hc

/-- A write to an element that exists keeps the canonical form. -/
theorem Memory.wf_write {size : Nat} {m : Memory} (i : Nat) (v : Byte) (hi : i < size)
    (h : Memory.wf size m = true) : Memory.wf size (m.write i v) = true := by
  unfold Memory.write
  split
  · exact Memory.wf_erase i h
  next hv =>
    have he := (Memory.wf_iff size _).1 (Memory.wf_erase i h)
    rw [Memory.wf_iff]
    refine ⟨Memory.rising_insert _ i v he.1 (Memory.erase_not_listed m i), fun c hc => ?_⟩
    rcases (Memory.mem_insert _ i v c).1 hc with rfl | hc
    · exact ⟨hi, hv⟩
    · exact he.2 c hc

/-- Consecutive writes to elements that exist keep the canonical form. -/
theorem Memory.wf_writeFrom {size : Nat} (vs : List Byte) {m : Memory} (i : Nat) (hi : i + vs.length ≤ size)
    (h : Memory.wf size m = true) : Memory.wf size (m.writeFrom i vs) = true := by
  induction vs generalizing m i with
  | nil => exact h
  | cons v vs ih =>
    simp only [List.length_cons] at hi
    exact ih (i + 1) (by omega) (Memory.wf_write i v (by omega) h)

theorem Memory.read_of_rising_head (a : Host.Cell) (m : Memory) (h : Memory.rising (a :: m) = true) (j : Nat)
    (hj : j < a.1) : Memory.read (a :: m) j = 0 := by
  have hall : ∀ c ∈ a :: m, j < c.1 := by
    intro c hc
    rcases List.mem_cons.1 hc with rfl | hc
    · exact hj
    · exact Nat.lt_trans hj (((Memory.rising_cons a m).1 h).1 c hc)
  generalize a :: m = l at hall
  induction l with
  | nil => rfl
  | cons c l ih =>
    have : ¬ c.1 = j := by have := hall c (by simp); omega
    simpa [Memory.read, this] using ih (fun d hd => hall d (by simp [hd]))

theorem Memory.read_head (a : Host.Cell) (m : Memory) : Memory.read (a :: m) a.1 = a.2 := by
  obtain ⟨b, x⟩ := a
  simp [Memory.read]

/-- Equal arrays are equal data: canonical forms with the same elements are the same list. -/
theorem Memory.ext_of_wf {size : Nat} : ∀ {m m' : Memory}, Memory.wf size m = true → Memory.wf size m' = true →
    (∀ i, m.read i = m'.read i) → m = m'
  | [], [], _, _, _ => rfl
  | a :: m, [], h, _, hr => by
    have := hr a.1
    rw [Memory.read_head, Memory.read_nil] at this
    exact absurd this (((Memory.wf_iff size _).1 h).2 a (by simp)).2
  | [], b :: m', _, h', hr => by
    have := hr b.1
    rw [Memory.read_head, Memory.read_nil] at this
    exact absurd this.symm (((Memory.wf_iff size _).1 h').2 b (by simp)).2
  | a :: m, b :: m', h, h', hr => by
    obtain ⟨hs, hc⟩ := (Memory.wf_iff size _).1 h
    obtain ⟨hs', hc'⟩ := (Memory.wf_iff size _).1 h'
    have hab : a.1 = b.1 := by
      rcases Nat.lt_trichotomy a.1 b.1 with hlt | heq | hgt
      · have := hr a.1
        rw [Memory.read_head, Memory.read_of_rising_head b m' hs' _ hlt] at this
        exact absurd this (hc a (by simp)).2
      · exact heq
      · have := hr b.1
        rw [Memory.read_head, Memory.read_of_rising_head a m hs _ hgt] at this
        exact absurd this.symm (hc' b (by simp)).2
    have hv : a.2 = b.2 := by
      have := hr a.1
      rw [Memory.read_head, hab, Memory.read_head] at this
      exact this
    have e : a = b := Prod.ext hab hv
    subst e
    obtain ⟨ha, hm⟩ := (Memory.rising_cons a m).1 hs
    obtain ⟨ha', hm'⟩ := (Memory.rising_cons a m').1 hs'
    congr 1
    refine Memory.ext_of_wf (size := size) ((Memory.wf_iff size m).2 ⟨hm, fun c h => hc c (by simp [h])⟩)
      ((Memory.wf_iff size m').2 ⟨hm', fun c h => hc' c (by simp [h])⟩) fun i => ?_
    by_cases hi : a.1 = i
    · have none_lt : ∀ l : Memory, (∀ c ∈ l, a.1 < c.1) → Memory.read l i = 0 := by
        intro l hl
        induction l with
        | nil => rfl
        | cons c l ih =>
          have : ¬ c.1 = i := by have := hl c (by simp); omega
          simpa [Memory.read, this] using ih (fun d hd => hl d (by simp [hd]))
      rw [none_lt m ha, none_lt m' ha']
    · have := hr i
      obtain ⟨k, x⟩ := a
      simpa [Memory.read, hi] using this

end Sys2Proof.Machine
end

