-- ==== Sys2Proof/Laws/PerInstr.lean ====
section
/-! SUPPORT. Facts about every command as syntax, one lemma per constructor. -/

namespace Sys2Proof.Laws.EncodedRow

open Sys2Proof.Machine

/-- The word of a command is an instance of the opcode map's row that carries its mnemonic (R73): what `encode`
leaves fixed is what the row fixes. -/
def Statement (i : Instr) : Prop :=
  ∃ row ∈ opcodeMap, row.mnemonic = mnemonicOf i ∧ row.matches (encode i) = true

/-- A word with opcode `op` is an instance of a row whose mask reaches the operand bits `f2`, `f1`, `f0` only where
they are zero. -/
theorem matches_of (m : String) (op m2 m1 m0 f2 f1 f0 : Byte) (h2 : f2 &&& m2 = 0) (h1 : f1 &&& m1 = 0)
    (h0 : f0 &&& m0 = 0) :
    OpcodeRow.matches ⟨m, wordOf op 0 0 0, wordOf 0xFF m2 m1 m0⟩ (wordOf op f2 f1 f0) = true := by
  have : wordOf op f2 f1 f0 &&& wordOf 0xFF m2 m1 m0 =
      wordOf (op &&& 0xFF#8) (f2 &&& m2) (f1 &&& m1) (f0 &&& m0) := by
    unfold wordOf
    refine BitVec.eq_of_getLsbD_eq fun j hj => ?_
    simp only [BitVec.getLsbD_and, BitVec.getLsbD_append]
    split_ifs <;> rfl
  have hop : op &&& 0xFF#8 = op := BitVec.and_allOnes
  simp only [OpcodeRow.matches, beq_iff_eq]
  rw [this, h2, h1, h0, hop]

/-- Bits above an operand's width are zero. -/
theorem low_bits {n : Nat} (x : BitVec n) (mask : Byte) (h : ∀ j, j < n → mask.getLsbD j = false) :
    x.zeroExtend 8 &&& mask = 0 := by
  ext j hj
  by_cases hn : j < n
  · have := h j hn
    simp [BitVec.getLsbD_eq_getElem hj] at this
    simp [this]
  · simp [BitVec.getLsbD_of_ge x j (by omega)]

theorem nop : Statement .nop := ⟨_, List.mem_iff_getElem.2 ⟨0, by decide, rfl⟩, rfl, by decide⟩
theorem gfMul (a b : Byte) : Statement (.gfMul a b) :=
  ⟨_, List.mem_iff_getElem.2 ⟨1, by decide, rfl⟩, rfl, matches_of _ 0x01 0xFF 0 0 _ _ _ (by decide) (by simp) (by simp)⟩
theorem gfDiv (a b : Byte) : Statement (.gfDiv a b) :=
  ⟨_, List.mem_iff_getElem.2 ⟨2, by decide, rfl⟩, rfl, matches_of _ 0x02 0xFF 0 0 _ _ _ (by decide) (by simp) (by simp)⟩
theorem gfExp (i : Byte) : Statement (.gfExp i) :=
  ⟨_, List.mem_iff_getElem.2 ⟨3, by decide, rfl⟩, rfl,
    matches_of _ 0x03 0xFF 0xFF 0 _ _ _ (by decide) (by decide) (by simp)⟩
theorem gfLog (a : Byte) : Statement (.gfLog a) :=
  ⟨_, List.mem_iff_getElem.2 ⟨4, by decide, rfl⟩, rfl,
    matches_of _ 0x04 0xFF 0xFF 0 _ _ _ (by decide) (by decide) (by simp)⟩
theorem rsCfg (k r : Byte) : Statement (.rsCfg k r) :=
  ⟨_, List.mem_iff_getElem.2 ⟨5, by decide, rfl⟩, rfl, matches_of _ 0x10 0xFF 0 0 _ _ _ (by decide) (by simp) (by simp)⟩
theorem rsWr (idx byte : Byte) : Statement (.rsWr idx byte) :=
  ⟨_, List.mem_iff_getElem.2 ⟨6, by decide, rfl⟩, rfl, matches_of _ 0x11 0xFF 0 0 _ _ _ (by decide) (by simp) (by simp)⟩
theorem rsRd (idx : Byte) : Statement (.rsRd idx) :=
  ⟨_, List.mem_iff_getElem.2 ⟨7, by decide, rfl⟩, rfl,
    matches_of _ 0x12 0xFF 0xFF 0 _ _ _ (by decide) (by decide) (by simp)⟩
theorem rsEnc : Statement .rsEnc := ⟨_, List.mem_iff_getElem.2 ⟨8, by decide, rfl⟩, rfl, by decide⟩
theorem rsSynd : Statement .rsSynd := ⟨_, List.mem_iff_getElem.2 ⟨9, by decide, rfl⟩, rfl, by decide⟩
theorem rsRdsyn (j : Byte) : Statement (.rsRdsyn j) :=
  ⟨_, List.mem_iff_getElem.2 ⟨10, by decide, rfl⟩, rfl,
    matches_of _ 0x15 0xFF 0xFF 0 _ _ _ (by decide) (by decide) (by simp)⟩
theorem rsRdgen (i : Byte) : Statement (.rsRdgen i) :=
  ⟨_, List.mem_iff_getElem.2 ⟨11, by decide, rfl⟩, rfl,
    matches_of _ 0x16 0xFF 0xFF 0 _ _ _ (by decide) (by decide) (by simp)⟩
theorem bchFmt (d : BitVec 5) : Statement (.bchFmt d) :=
  ⟨_, List.mem_iff_getElem.2 ⟨12, by decide, rfl⟩, rfl,
    matches_of _ 0x20 0xFF 0xFF 0xE0 _ _ _ (by decide) (by decide) (low_bits d _ (by decide))⟩
theorem bchVer (v : BitVec 6) : Statement (.bchVer v) :=
  ⟨_, List.mem_iff_getElem.2 ⟨13, by decide, rfl⟩, rfl,
    matches_of _ 0x21 0xFF 0xFF 0xC0 _ _ _ (by decide) (by decide) (low_bits v _ (by decide))⟩
theorem gridCfg (n : Byte) : Statement (.gridCfg n) :=
  ⟨_, List.mem_iff_getElem.2 ⟨14, by decide, rfl⟩, rfl,
    matches_of _ 0x30 0xFF 0xFF 0 _ _ _ (by decide) (by decide) (by simp)⟩
theorem gridWr (row col : Byte) (v : BitVec 1) : Statement (.gridWr row col v) :=
  ⟨_, List.mem_iff_getElem.2 ⟨15, by decide, rfl⟩, rfl,
    matches_of _ 0x31 0 0 0xFE _ _ _ (by simp) (by simp) (low_bits v _ (by decide))⟩
theorem gridRd (row col : Byte) : Statement (.gridRd row col) :=
  ⟨_, List.mem_iff_getElem.2 ⟨16, by decide, rfl⟩, rfl, matches_of _ 0x32 0 0 0xFF _ _ _ (by simp) (by simp) (by decide)⟩
theorem penScore : Statement .penScore := ⟨_, List.mem_iff_getElem.2 ⟨17, by decide, rfl⟩, rfl, by decide⟩
theorem penRd (sel : BitVec 3) : Statement (.penRd sel) :=
  ⟨_, List.mem_iff_getElem.2 ⟨18, by decide, rfl⟩, rfl,
    matches_of _ 0x34 0xFF 0xFF 0xF8 _ _ _ (by decide) (by decide) (low_bits sel _ (by decide))⟩
theorem selClr : Statement .selClr := ⟨_, List.mem_iff_getElem.2 ⟨19, by decide, rfl⟩, rfl, by decide⟩
theorem selUpd (m : BitVec 3) : Statement (.selUpd m) :=
  ⟨_, List.mem_iff_getElem.2 ⟨20, by decide, rfl⟩, rfl,
    matches_of _ 0x39 0xFF 0xFF 0xF8 _ _ _ (by decide) (by decide) (low_bits m _ (by decide))⟩
theorem selRd : Statement .selRd := ⟨_, List.mem_iff_getElem.2 ⟨21, by decide, rfl⟩, rfl, by decide⟩
theorem statRd : Statement .statRd := ⟨_, List.mem_iff_getElem.2 ⟨22, by decide, rfl⟩, rfl, by decide⟩
theorem idRd : Statement .idRd := ⟨_, List.mem_iff_getElem.2 ⟨23, by decide, rfl⟩, rfl, by decide⟩
theorem fcmdRd : Statement .fcmdRd := ⟨_, List.mem_iff_getElem.2 ⟨24, by decide, rfl⟩, rfl, by decide⟩
theorem sreset : Statement .sreset := ⟨_, List.mem_iff_getElem.2 ⟨25, by decide, rfl⟩, rfl, by decide⟩

end Sys2Proof.Laws.EncodedRow
end

