-- ==== Sys2Proof/Tests/Slice0.lean ====
section
/-! SUPPORT. Tests on small states, their expected values taken from the spec's own examples (cited by rule or by the
vector's name in 95_test_vectors.md), and one witness for the hypotheses of each statement of the certificate. -/

-- one theorem after another: side by side their threads' stacks pass the memory limit
set_option Elab.async false

namespace Sys2Proof.Tests

open Sys2Proof Sys2Proof.Machine Sys2Proof.Reference

/-! ### Well-formedness -/

/-- R73, R75 (c): the reserved operand values of `PEN_RD`. -/
theorem test_pen_rd_reserved_is_ill_formed :
    Instr.wellFormed (.penRd 5) = false ∧ Instr.wellFormed (.penRd 6) = false ∧ Instr.wellFormed (.penRd 7) = false := by
  decide

theorem test_pen_rd_four_is_well_formed : Instr.wellFormed (.penRd 4) = true := by decide

/-! ### Decoding: for each command a word put together from R73's table and R71's formats -/

theorem test_decode_field_arithmetic :
    decode 0x00000000#32 = .ok .nop ∧ decode 0x010053CA#32 = .ok (.gfMul 0x53 0xCA) ∧
    decode 0x02000500#32 = .ok (.gfDiv 0x05 0x00) ∧ decode 0x030000FE#32 = .ok (.gfExp 254) ∧
    decode 0x0400001D#32 = .ok (.gfLog 0x1D) := by decide +kernel

theorem test_decode_reed_solomon :
    decode 0x1000100A#32 = .ok (.rsCfg 16 10) ∧ decode 0x1100FEAA#32 = .ok (.rsWr 254 0xAA) ∧
    decode 0x12000019#32 = .ok (.rsRd 25) ∧ decode 0x13000000#32 = .ok .rsEnc ∧ decode 0x14000000#32 = .ok .rsSynd ∧
    decode 0x15000028#32 = .ok (.rsRdsyn 40) ∧ decode 0x1600000B#32 = .ok (.rsRdgen 11) := by decide +kernel

theorem test_decode_bch :
    decode 0x2000001F#32 = .ok (.bchFmt 0x1F) ∧ decode 0x2100003F#32 = .ok (.bchVer 63) := by decide +kernel

theorem test_decode_penalty :
    decode 0x300000B1#32 = .ok (.gridCfg 177) ∧ decode 0x31020001#32 = .ok (.gridWr 2 0 1) ∧
    decode 0x32000600#32 = .ok (.gridRd 0 6) ∧ decode 0x33000000#32 = .ok .penScore ∧
    decode 0x34000004#32 = .ok (.penRd 4) ∧ decode 0x38000000#32 = .ok .selClr ∧
    decode 0x39000006#32 = .ok (.selUpd 6) ∧ decode 0x3A000000#32 = .ok .selRd := by decide +kernel

theorem test_decode_system :
    decode 0xF0000000#32 = .ok .statRd ∧ decode 0xF1000000#32 = .ok .idRd ∧ decode 0xF2000000#32 = .ok .fcmdRd ∧
    decode 0xFF000000#32 = .ok .sreset := by decide +kernel

/-- V-S2, V-S7: opcodes that are not assigned. -/
theorem test_decode_unlisted_opcodes :
    [0x05000000#32, 0x0F000000#32, 0x17000000#32, 0x22000000#32, 0x35000000#32, 0x3B000000#32, 0xEF000000#32,
      0xF3000000#32, 0xFE000000#32].all (fun w => (decode w).toOption.isNone) = true := by decide +kernel

/-- V-S1, V-S3 to V-S6, V-B5, V-B10, V-P40, V-P41: a bit that must be 0 is 1. -/
theorem test_decode_must_be_zero_bits :
    [0x00000001#32, 0x01010000#32, 0xF0000001#32, 0x3A000100#32, 0xFFFFFFFF#32, 0x20000020#32, 0x21000040#32,
      0x31C8C802#32, 0x32000001#32].all (fun w => (decode w).toOption.isNone) = true := by decide +kernel

theorem test_decode_table_word :
    decodeTableWord 32 0x1000100A = some (.rsCfg 16 10) ∧ decodeTableWord 32 0x05000000 = none := by decide +kernel

/-! ### Small states -/

/-- The response and the `STATUS` after one command. -/
def answer (i : Instr) (s : State) : Option (Word × Word) :=
  match exec i s with
  | .next t => some (t.resp, t.status)
  | _ => none

/-- A field of the state after one command. -/
def after (i : Instr) (s : State) {α : Type} (f : State → α) : Option α :=
  match exec i s with
  | .next t => some (f t)
  | _ => none

/-- The next state an outcome holds. -/
def nextState : Outcome → Option State
  | .next t => some t
  | _ => none

/-- A configured RS unit with the given generator coefficients and buffer. -/
def rsState (k r : Byte) (gen cw : List Byte) : State :=
  { State.reset with rsK := k, rsR := r, rsValid := true, gen := Memory.writeFrom [] 0 gen, cw := Memory.writeFrom [] 0 cw }

/-- The same with syndromes. -/
def synState (k r : Byte) (gen cw syn : List Byte) (zero : Bool) : State :=
  { rsState k r gen cw with syn := Memory.writeFrom [] 0 syn, synValid := true, synZero := zero }

/-- A configured grid with the given dark modules, not scored. -/
def gridState (n : Byte) (dark : List (Nat × Nat)) : State :=
  { State.reset with gridN := n, gridValid := true, grid := dark.foldl (fun g p => g.put p.1 p.2 true) Grid.light }

/-- A scored grid with given totals. -/
def scoredState (n : Byte) (p1 p2 p3 p4 total : Word) : State :=
  { gridState n [] with pen1 := p1, pen2 := p2, pen3 := p3, pen4 := p4, penTotal := total, penValid := true }

/-- The state P4 shows after its sixth command. -/
def faultedState : State :=
  { State.reset with faulted := true, faultCode := 0x02, faultCmd := 0x02000500#32, resp := 0xFFFFFFFF#32 }

/-- The dark modules of an `n × n` checkerboard (95 section 2.4) with row 0 replaced. -/
def checkerWithRow0 (n : Nat) (row0 : List Nat) : List (Nat × Nat) :=
  row0.map (fun x => (0, x)) ++ (List.range (n - 1)).flatMap (fun y =>
    ((List.range n).filter (fun x => (x + y + 1) % 2 == 1)).map (fun x => (y + 1, x)))

/-! ### Meanings -/

/-- R190, program P4: `NOP` runs, and is ignored while faulted. -/
theorem test_nop : answer .nop (rsState 1 1 [1, 1] []) = some (0, 0x2) ∧
    answer .nop faultedState = some (0xFFFFFFFF#32, 0x201) := by decide +kernel

/-- V-G4, V-G5, V-G6. -/
theorem test_gf_mul : answer (.gfMul 0x02 0x80) State.reset = some (0x1D, 0) ∧
    answer (.gfMul 0x53 0xCA) State.reset = some (0x8F, 0) ∧
    answer (.gfMul 0xFF 0xFF) State.reset = some (0xE2, 0) := by decide +kernel

/-- V-G14, V-G15, V-G17, V-G18. -/
theorem test_gf_div : answer (.gfDiv 0x01 0xFF) State.reset = some (0xFD, 0) ∧
    answer (.gfDiv 0x3A 0x1D) State.reset = some (0x02, 0) ∧
    answer (.gfDiv 0x05 0x00) State.reset = some (0xFFFFFFFF#32, 0x201) ∧
    answer (.gfDiv 0x00 0x00) State.reset = some (0xFFFFFFFF#32, 0x201) := by decide +kernel

/-- P4: the state after the fault. -/
theorem test_gf_div_fault_entry : nextState (exec (.gfDiv 0x05 0x00) State.reset) = some faultedState := by decide +kernel

/-- V-G20, V-G21, V-G22. -/
theorem test_gf_exp : answer (.gfExp 8) State.reset = some (0x1D, 0) ∧
    answer (.gfExp 254) State.reset = some (0x8E, 0) ∧ answer (.gfExp 255) State.reset = some (0x01, 0) := by
  decide +kernel

/-- V-G23, V-G26, V-G27. -/
theorem test_gf_log : answer (.gfLog 0x01) State.reset = some (0, 0) ∧
    answer (.gfLog 0xFF) State.reset = some (0xAF, 0) ∧
    answer (.gfLog 0x00) State.reset = some (0xFFFFFFFF#32, 0x301) := by decide +kernel

/-- R120's printed row for r = 10; R121 clears the buffer (V-R26). -/
theorem test_rs_cfg : after (.rsCfg 16 10) (rsState 3 2 [1, 3, 2] [0xFF]) (fun t => (t.gen.slice 0 31, t.cw, t.resp)) =
    some ([0x01, 0xD8, 0xC2, 0x9F, 0x6F, 0xC7, 0x5E, 0x5F, 0x71, 0x9D, 0xC1] ++ List.replicate 20 0, [], 0) := by
  decide +kernel

/-- V-R18, V-R19, V-R20 fault; V-R21 and V-R7 have the sizes at the bounds. -/
theorem test_rs_cfg_bounds : answer (.rsCfg 0 0) State.reset = some (0xFFFFFFFF#32, 0x401) ∧
    answer (.rsCfg 0 31) State.reset = some (0xFFFFFFFF#32, 0x401) ∧
    answer (.rsCfg 226 30) State.reset = some (0xFFFFFFFF#32, 0x401) ∧
    answer (.rsCfg 225 30) State.reset = some (0, 2) ∧ answer (.rsCfg 0 7) State.reset = some (0, 2) := by
  decide +kernel

/-- P1: a write makes the syndromes stale; V-R21: the largest index. -/
theorem test_rs_wr : after (.rsWr 3 0x79) (synState 2 2 [1, 3, 2] [9, 9, 9, 9] [] true)
      (fun t => (t.cw.slice 0 5, t.status, t.resp)) = some ([9, 9, 9, 0x79, 0], 2, 0) ∧
    after (.rsWr 254 0xAA) (rsState 225 30 [] []) (fun t => t.cw) = some [(254, 0xAA)] := by decide +kernel

/-- V-R17, V-R22. -/
theorem test_rs_wr_faults : answer (.rsWr 0 1) State.reset = some (0xFFFFFFFF#32, 0x501) ∧
    answer (.rsWr 2 0) (rsState 1 1 [1, 1] []) = some (0xFFFFFFFF#32, 0x603) := by decide +kernel

/-- V-R21, V-R26. -/
theorem test_rs_rd : answer (.rsRd 254) (rsState 225 30 [] (List.replicate 254 0 ++ [0xAA])) = some (0xAA, 2) ∧
    answer (.rsRd 0) (rsState 3 2 [1, 3, 2] []) = some (0, 2) := by decide +kernel

/-- V-R10, V-R11: three data bytes, from a buffer whose parity positions hold other values. -/
theorem test_rs_enc : after .rsEnc (rsState 3 2 [0x01, 0x03, 0x02] [0xFF, 0xFF, 0xFF, 0x55, 0x66]) (fun t =>
      (t.cw.slice 0 6, t.resp)) = some ([0xFF, 0xFF, 0xFF, 0xB7, 0x48, 0x00], 0) ∧
    after .rsEnc (rsState 3 3 [0x01, 0x07, 0x0E, 0x08] [0x12, 0x34, 0x56]) (fun t => t.cw.slice 3 4) =
      some [0x81, 0xC3, 0x32, 0x00] := by decide +kernel

/-- V-R1: the block of sixteen bytes. -/
theorem test_rs_enc_hello_world : after .rsEnc
      (rsState 16 10 [0x01, 0xD8, 0xC2, 0x9F, 0x6F, 0xC7, 0x5E, 0x5F, 0x71, 0x9D, 0xC1]
        [0x20, 0x5B, 0x0B, 0x78, 0xD1, 0x72, 0xDC, 0x4D, 0x43, 0x40, 0xEC, 0x11, 0xEC, 0x11, 0xEC, 0x11])
      (fun t => t.cw.slice 16 10) =
    some [0xC4, 0x23, 0x27, 0x77, 0xEB, 0xD7, 0xE7, 0xE2, 0x5D, 0x17] := by decide +kernel

/-- V-R14: the codeword of V-R1 with one byte changed. -/
theorem test_rs_synd : after .rsSynd
      (rsState 16 10 [] [0x20, 0x5B, 0x0B, 0x79, 0xD1, 0x72, 0xDC, 0x4D, 0x43, 0x40, 0xEC, 0x11, 0xEC, 0x11, 0xEC, 0x11,
        0xC4, 0x23, 0x27, 0x77, 0xEB, 0xD7, 0xE7, 0xE2, 0x5D, 0x17])
      (fun t => (t.syn.slice 0 11, t.status, t.resp)) =
    some ([0x01, 0xEA, 0xEE, 0x61, 0xFE, 0x67, 0xB8, 0x39, 0xE3, 0x07, 0x00], 0x6, 0) := by decide +kernel

/-- V-R4's codeword has zero syndromes (R132); V-R24's buffer of zeros too. -/
theorem test_rs_synd_of_codewords : answer .rsSynd (rsState 1 2 [1, 3, 2] [0x01, 0x03, 0x02]) = some (1, 0xE) ∧
    answer .rsSynd (rsState 1 1 [1, 1] []) = some (1, 0xE) := by decide +kernel

/-- V-R14, V-R23, V-R24, V-R25. -/
theorem test_rs_rdsyn : answer (.rsRdsyn 1) (synState 1 2 [1, 3, 2] [] [0x01, 0xEA] false) = some (0xEA, 0x6) ∧
    answer (.rsRdsyn 0) (rsState 1 1 [1, 1] []) = some (0xFFFFFFFF#32, 0x703) ∧
    answer (.rsRdsyn 1) (synState 1 1 [1, 1] [] [] true) = some (0xFFFFFFFF#32, 0x60F) ∧
    answer (.rsRdsyn 40) State.reset = some (0xFFFFFFFF#32, 0x501) := by decide +kernel

/-- 95 section 2.2, generator read-back after `RS_CFG 1, 1`. -/
theorem test_rs_rdgen : answer (.rsRdgen 1) (rsState 1 1 [1, 1] []) = some (1, 2) ∧
    answer (.rsRdgen 2) (rsState 1 1 [1, 1] []) = some (0xFFFFFFFF#32, 0x603) := by decide +kernel

/-- V-B1 to V-B4. -/
theorem test_bch_fmt : answer (.bchFmt 0x00) State.reset = some (0x5412, 0) ∧
    answer (.bchFmt 0x05) State.reset = some (0x40CE, 0) ∧ answer (.bchFmt 0x18) State.reset = some (0x355F, 0) ∧
    answer (.bchFmt 0x1F) State.reset = some (0x2BED, 0) := by decide +kernel

/-- V-B6 to V-B9. -/
theorem test_bch_ver : answer (.bchVer 0) State.reset = some (0, 0) ∧
    answer (.bchVer 7) State.reset = some (0x7C94, 0) ∧ answer (.bchVer 40) State.reset = some (0x28C69, 0) ∧
    answer (.bchVer 63) State.reset = some (0x3FB85, 0) := by decide +kernel

/-- R161, P3: the grid is cleared, the scores go, the selector stays. -/
theorem test_grid_cfg : after (.gridCfg 3)
      { gridState 3 [(0, 1), (2, 2)] with penTotal := 9, penValid := true, bestValid := true, bestPen := 10 }
      (fun t => (t.grid.module 0 1, t.grid.module 2 2, t.penTotal, t.bestPen, t.status, t.resp)) =
    some (false, false, 0, 10, 0x50, 0) := by decide +kernel

/-- V-P31, V-P32, V-P33. -/
theorem test_grid_cfg_bounds : answer (.gridCfg 0) State.reset = some (0xFFFFFFFF#32, 0x801) ∧
    answer (.gridCfg 178) State.reset = some (0xFFFFFFFF#32, 0x801) ∧
    answer (.gridCfg 177) State.reset = some (0, 0x10) ∧ answer (.gridCfg 1) State.reset = some (0, 0x10) := by
  decide +kernel

/-- V-P33: the last module; R162: a write back to light. -/
theorem test_grid_wr : after (.gridWr 176 176 1) (gridState 177 []) (fun t =>
      (t.grid.module 176 176, t.grid.module 176 175, t.resp)) = some (true, false, 0) ∧
    after (.gridWr 1 2 0) (gridState 3 [(1, 2), (2, 1)]) (fun t => (t.grid.module 1 2, t.grid.module 2 1)) =
      some (false, true) := by decide +kernel

/-- V-P34, V-P35. -/
theorem test_grid_wr_faults : answer (.gridWr 0 0 1) State.reset = some (0xFFFFFFFF#32, 0x901) ∧
    answer (.gridWr 3 0 1) (gridState 3 []) = some (0xFFFFFFFF#32, 0xA11) := by decide +kernel

/-- P5: row 0 holds a dark module at column 5 and a light one at column 6; V-P33. -/
theorem test_grid_rd : answer (.gridRd 0 5) (gridState 8 [(0, 5)]) = some (1, 0x10) ∧
    answer (.gridRd 0 6) (gridState 8 [(0, 5)]) = some (0, 0x10) ∧
    answer (.gridRd 5 0) (gridState 8 [(0, 5)]) = some (0, 0x10) := by decide +kernel

/-- V-P6b: a light 6 × 6 grid; V-P7: the run of six. -/
theorem test_pen_score : after .penScore (gridState 6 []) (fun t => [t.pen1, t.pen2, t.pen3, t.pen4, t.penTotal, t.resp]) =
      some [48, 75, 0, 100, 223, 223] ∧
    after .penScore (gridState 8 (checkerWithRow0 8 [0, 1, 2, 3, 4, 5, 7]))
      (fun t => [t.pen1, t.pen2, t.pen3, t.pen4, t.penTotal, t.status]) = some [4, 0, 0, 0, 4, 0x30] := by decide +kernel

/-- V-P16: window B in row 0; V-P10: the balance. -/
theorem test_pen_score_windows :
    after .penScore (gridState 11 (checkerWithRow0 11 [4, 6, 7, 8, 10]))
      (fun t => [t.pen1, t.pen2, t.pen3, t.pen4, t.penTotal]) = some [0, 0, 40, 0, 40] ∧
    after .penScore (gridState 8 (checkerWithRow0 8 [0, 1, 2, 3, 4, 5, 6, 7]))
      (fun t => [t.pen1, t.pen2, t.pen3, t.pen4, t.penTotal]) = some [6, 0, 0, 10, 16] := by decide +kernel

/-- R171's choice of register; V-P36, V-P39. -/
theorem test_pen_rd : [0, 1, 2, 3, 4].map (fun sel => answer (.penRd sel) (scoredState 3 1 2 3 4 10)) =
      [some (10, 0x30), some (1, 0x30), some (2, 0x30), some (3, 0x30), some (4, 0x30)] ∧
    answer (.penRd 0) (gridState 3 []) = some (0xFFFFFFFF#32, 0xB11) ∧
    answer (.penRd 5) State.reset = some (0xFFFFFFFF#32, 0x101) := by decide +kernel

theorem test_sel_clr : after .selClr { scoredState 3 0 0 0 10 10 with bestValid := true, bestMask := 2, bestPen := 10 }
    (fun t => (t.bestValid, t.bestMask, t.bestPen, t.penTotal, t.resp)) = some (false, 0, 0, 10, 0) := by decide +kernel

/-- P3 part b: first, lower total, equal total and lower index, equal total and higher index. -/
theorem test_sel_upd : after (.selUpd 5) (scoredState 3 0 12 0 100 112) (fun t => (t.bestWord, t.resp)) =
      some (0x85000070#32, 1) ∧
    after (.selUpd 6) { scoredState 3 0 0 0 10 10 with bestValid := true, bestMask := 5, bestPen := 112 }
      (fun t => (t.bestWord, t.resp)) = some (0x8600000A#32, 1) ∧
    after (.selUpd 2) { scoredState 3 0 0 0 10 10 with bestValid := true, bestMask := 6, bestPen := 10 }
      (fun t => (t.bestWord, t.resp)) = some (0x8200000A#32, 1) ∧
    after (.selUpd 4) { scoredState 3 0 0 0 10 10 with bestValid := true, bestMask := 2, bestPen := 10 }
      (fun t => (t.bestWord, t.resp)) = some (0x8200000A#32, 0) := by decide +kernel

/-- P3 part a's third candidate, a higher total; V-P37: stale scores. -/
theorem test_sel_upd_not_taken :
    after (.selUpd 2) { scoredState 3 0 12 0 100 112 with bestValid := true, bestMask := 0, bestPen := 10 }
      (fun t => (t.bestWord, t.resp)) = some (0x8000000A#32, 0) ∧
    answer (.selUpd 0) (gridState 3 []) = some (0xFFFFFFFF#32, 0xB11) := by decide +kernel

theorem test_sel_rd : answer .selRd { scoredState 3 0 0 0 10 10 with bestValid := true, bestMask := 6, bestPen := 10 } =
      some (0x8600000A#32, 0x70) ∧ answer .selRd State.reset = some (0, 0) := by decide +kernel

/-- P4: what the four words answer while the block is faulted. -/
theorem test_stat_rd : answer .statRd faultedState = some (0x201, 0x201) ∧
    answer .statRd (synState 1 2 [1, 3, 2] [] [] true) = some (0xE, 0xE) := by decide +kernel

theorem test_id_rd : answer .idRd faultedState = some (0x51520100#32, 0x201) ∧
    answer .idRd State.reset = some (0x51520100#32, 0) := by decide +kernel

theorem test_fcmd_rd : answer .fcmdRd faultedState = some (0x02000500#32, 0x201) ∧
    answer .fcmdRd State.reset = some (0, 0) := by decide +kernel

theorem test_sreset : nextState (exec .sreset faultedState) = some State.reset ∧
    nextState (exec .sreset (scoredState 3 0 12 0 100 112)) = some State.reset := by decide +kernel

/-- V-S6: an illegal word of all ones, and what `FCMD_RD` then answers. -/
theorem test_illegal_word : nextState (execWord 0xFFFFFFFF#32 State.reset) =
    some { State.reset with faulted := true, faultCode := 1, faultCmd := 0xFFFFFFFF#32, resp := 0xFFFFFFFF#32 } := by
  decide +kernel

/-- P4: an ignored command; a word put on `CMD` runs at the next step. -/
theorem test_step_runs_the_word : nextState (step (State.reset.withFetchWord 32 0x02000500)) = some faultedState ∧
    nextState (step (faultedState.withFetchWord 32 0x10000101)) = some faultedState := by decide +kernel

/-! ### The assembler: R78's and R79's examples -/

theorem test_assembler_lines :
    (assembleLine "RS_CFG 16, 10").map (·.map encode) = some [0x1000100A#32] ∧
    (assembleLine "RS_WR 3, 0x78 ; a comment").map (·.map encode) = some [0x11000378#32] ∧
    (assembleLine "GRID_WR 2, 0, 1").map (·.map encode) = some [0x31020001#32] ∧
    (assembleLine "BCH_FMT 0x05").map (·.map encode) = some [0x20000005#32] ∧
    (assembleLine "RS_ENC").map (·.map encode) = some [0x13000000#32] ∧ assembleLine "BCH_FMT 32" = none := by
  decide +kernel

/-- R143: V-B3's payload is level Q, mask 0, and V-B2's level M, mask 5 (R142's and R147's example words). -/
theorem test_format_payload : formatPayload .q 0 = 0x18#5 ∧ formatPayload .m 5 = 0x05#5 := by decide +kernel

/-- P5's row 2, and a load of two bytes. -/
theorem test_assembler_pseudo_commands :
    (assembleLine "GRID_ROW 2, \".X.X.X.X\"").map (·.map encode) =
      some [0x31020101#32, 0x31020301#32, 0x31020501#32, 0x31020701#32] ∧
    (assembleLine "RS_LOAD 0x20, 0x5B").map (·.map encode) = some [0x11000020#32, 0x1100015B#32] := by decide +kernel

/-! ### Witnesses: concrete states and operands that meet the hypotheses of the statements

`witness_<statement>` is for the statement of that name; a statement with several clauses has a witness for each, at the
boundary values of its ranges. A statement without hypotheses has none. -/

/-- A configured RS unit of one data byte and two parity bytes, holding V-R4's codeword, its syndromes computed; a
scored grid of one light module (V-P1), already offered to the selector. -/
def workingState : State :=
  { synState 1 2 [0x01, 0x03, 0x02] [0x01, 0x03, 0x02] [] true with
    gridN := 1, gridValid := true, pen4 := 100, penTotal := 100, penValid := true,
    bestValid := true, bestMask := 3, bestPen := 100 }

/-- The largest RS configuration (V-R12): `k + r = 255`. -/
def largestRs : State := rsState 225 30 (genPoly 30) (List.replicate 225 0x01)

/-- The largest grid (V-P33) with its last module dark. -/
def largestGrid : State := gridState 177 [(176, 176)]

theorem workingState_running : workingState.faulted = false := by decide +kernel

theorem workingState_generator (i : Nat) : workingState.gen.read i = (genPoly 2).getD i 0 := by
  have h : genPoly 2 = [0x01, 0x03, 0x02] := by decide +kernel
  rw [h]
  simp only [workingState, synState, rsState, Memory.read_writeFrom, Memory.read_nil, List.length_cons, List.length_nil]
  split
  · next h => simp
  · next h => rw [List.getD_eq_default _ _ (by simp; omega)]

theorem workingState_rsReady : workingState.RsReady :=
  ⟨by decide +kernel, by decide +kernel, by decide +kernel, by decide +kernel, by decide +kernel⟩

theorem largestRs_rsReady : largestRs.RsReady :=
  ⟨by decide +kernel, by decide +kernel, by decide +kernel, by decide +kernel, by decide +kernel⟩

theorem workingState_gridReady : workingState.GridReady :=
  ⟨by decide +kernel, by decide +kernel, by decide +kernel, by decide +kernel⟩

theorem largestGrid_gridReady : largestGrid.GridReady :=
  ⟨by decide +kernel, by decide +kernel, by decide +kernel, by decide +kernel⟩

theorem workingState_inv : workingState.Inv where
  cwForm := by decide +kernel
  genForm := by decide +kernel
  synForm := by decide +kernel
  running := by decide +kernel
  faultedCode := by decide +kernel
  rsUnconfigured := by decide +kernel
  rsBounds := by decide +kernel
  generator := fun _ => workingState_generator
  cwAbove := by
    intro _ i hi
    have hi : 3 ≤ i := hi
    simp only [workingState, synState, rsState, Memory.read_writeFrom, Memory.read_nil, List.length_cons, List.length_nil]
    rw [if_neg (by omega)]
  synAbove := by
    intro j _
    simp only [workingState, synState, Memory.writeFrom, Memory.read_nil]
  synConfigured := by decide +kernel
  synValues := by decide +kernel
  synZeroMeans := by decide +kernel
  gridUnconfigured := by decide +kernel
  gridBounds := by decide +kernel
  gridOutside := by
    intro y x _
    exact Grid.module_light y x
  penConfigured := by decide +kernel
  penValues := by decide +kernel
  penBounds := by decide +kernel
  bestEmpty := by decide +kernel
  bestBound := by decide +kernel

/-- The same invariant in a `FAULTED` state: P4's. -/
theorem faultedState_inv : faultedState.Inv where
  cwForm := by decide +kernel
  genForm := by decide +kernel
  synForm := by decide +kernel
  running := by decide +kernel
  faultedCode := by decide +kernel
  rsUnconfigured := by decide +kernel
  rsBounds := by decide +kernel
  generator := by intro h; exact absurd h (by decide +kernel)
  cwAbove := by intro h; exact absurd h (by decide +kernel)
  synAbove := by intro j _; exact Memory.read_nil j
  synConfigured := by decide +kernel
  synValues := by decide +kernel
  synZeroMeans := by decide +kernel
  gridUnconfigured := by decide +kernel
  gridBounds := by decide +kernel
  gridOutside := by intro y x _; exact Grid.module_light y x
  penConfigured := by decide +kernel
  penValues := by decide +kernel
  penBounds := by decide +kernel
  bestEmpty := by decide +kernel
  bestBound := by decide +kernel

theorem witness_EncodingTheDecodedWordGivesItBack : decode 0x31B0B001#32 = .ok (.gridWr 176 176 1) := by decide +kernel

theorem witness_DecoderFollowsTheOpcodeMap :
    ∃ row ∈ opcodeMap, row.matches 0x2000001F#32 = true ∧ decode 0x2000001F#32 = .ok (.bchFmt 31) :=
  ⟨⟨"BCH_FMT", 0x20000000#32, 0xFFFFFFE0#32⟩, by decide +kernel, by decide +kernel, by decide +kernel⟩

/-- The three cases of R75, and the two states. -/
theorem witness_IllegalWordsRaiseIllegalCommand :
    IllegalWord 0x05000000#32 ∧ IllegalWord 0x20000020#32 ∧ IllegalWord 0x34000005#32 ∧
    workingState.faulted = false ∧ faultedState.faulted = true :=
  ⟨.inl (by decide), .inr (.inl ⟨⟨"BCH_FMT", 0x20000000#32, 0xFFFFFFE0#32⟩, by decide +kernel, by decide +kernel,
    by decide +kernel⟩), .inr (.inr (.inl rfl)), workingState_running, rfl⟩

theorem witness_StepRunsTheOldestPortEvent :
    workingState.port = [] ∧ decode 0x13000000#32 = .ok .rsEnc ∧
    (workingState.withFetchWord 32 0x13000000).port = .command 0x13000000#32 :: [] ∧
    decode 0x05000000#32 = .error (.unlistedOpcode 0x05) ∧
    (faultedState.withFetchWord 32 0x05000000).port = .command 0x05000000#32 :: [] ∧
    (workingState.withPort [.reset, .command 0]).port = .reset :: [.command 0] := by
  refine ⟨?_, ?_, ?_, ?_, ?_, ?_⟩ <;> decide +kernel

theorem witness_FaultedStateExecutesOnlyFourWords : faultedState.faulted = true := rfl

theorem witness_FaultIsKeptUntilReset :
    faultedState.faulted = true ∧ 0xFF000000#32 ∉ [0xF0000000#32, 0x05000000#32, 0xFF000001#32] := by decide +kernel

theorem witness_FaultsArePrecise :
    workingState.faulted = false ∧ ∃ t, execWord 0x04000000#32 workingState = .next t ∧ t.faulted = true :=
  ⟨workingState_running, _, rfl, by decide +kernel⟩

theorem witness_CommandsRaiseOnlyTheirCauses :
    workingState.faulted = false ∧ ∃ t, exec (.rsRd 3) workingState = .next t ∧ t.faulted = true :=
  ⟨workingState_running, _, rfl, by decide +kernel⟩

theorem witness_UnconfiguredUnitsFaultFirst :
    State.reset.faulted = false ∧ State.reset.rsValid = false ∧ State.reset.gridValid = false := by decide +kernel

theorem witness_StaleResultsFault :
    (rsState 1 1 [1, 1] []).faulted = false ∧ (rsState 1 1 [1, 1] []).rsValid = true ∧
    (rsState 1 1 [1, 1] []).synValid = false ∧ (rsState 1 1 [1, 1] []).penValid = false ∧
    (4#3).toNat ≤ 4 ∧ 4 < (5#3).toNat := by decide +kernel

/-- Each clause at the first operand past its bound. -/
theorem witness_OperandsOutOfRangeFault :
    workingState.faulted = false ∧ (0x00#8).toNat < 1 ∧ 30 < (31#8).toNat ∧ 255 < (226#8).toNat + (30#8).toNat ∧
    workingState.rsValid = true ∧ workingState.rsK.toNat + workingState.rsR.toNat ≤ (3#8).toNat ∧
    workingState.synValid = true ∧ workingState.rsR.toNat ≤ (2#8).toNat ∧ workingState.rsR.toNat < (3#8).toNat ∧
    177 < (178#8).toNat ∧ workingState.gridValid = true ∧ workingState.gridN.toNat ≤ (1#8).toNat := by decide +kernel

theorem witness_NopOnlyAnswersZero :
    workingState.faulted = false ∧ faultedState.faulted = true ∧ opOf 0x00000001#32 = 0x00#8 ∧
    0x00000001#32 ≠ 0x00000000#32 := by decide +kernel

theorem witness_SystemReadsExecuteInBothStates :
    opOf 0xF0000001#32 = 0xF0#8 ∧ opOf 0xF1800000#32 = 0xF1#8 ∧ opOf 0xF2000100#32 = 0xF2#8 ∧
    0xF0000001#32 ≠ 0xF0000000#32 ∧ 0xF1800000#32 ≠ 0xF1000000#32 ∧ 0xF2000100#32 ≠ 0xF2000000#32 ∧
    workingState.faulted = false ∧ faultedState.faulted = true := by decide +kernel

theorem witness_ResetLeavesTheTableOfResetValues : (253 : Nat) < 254 ∧ 0xFF#8 ≠ 0 := by decide

theorem witness_GfMulIsTheProductModuloTheFieldPolynomial : workingState.faulted = false := workingState_running

theorem witness_GfDivUndoesMultiplication : workingState.faulted = false ∧ 0xFF#8 ≠ 0 :=
  ⟨workingState_running, by decide⟩

theorem witness_GfExpAnswersThePowerOfAlpha : workingState.faulted = false := workingState_running

theorem witness_GfLogAnswersTheExponent :
    workingState.faulted = false ∧ 0x8E#8 ≠ 0 ∧ 254 ≤ 254 ∧ alphaPow 254 = 0x8E#8 :=
  ⟨workingState_running, by decide, by decide, by decide +kernel⟩

theorem witness_FieldArithmeticLaws : 0x01#8 ≠ 0 ∧ gfMul 0x00 0x53 = 0 := by decide +kernel

theorem witness_BchFmtAnswersTheMaskedCodeword : workingState.faulted = false := workingState_running

theorem witness_BchVerAnswersTheCodeword : workingState.faulted = false := workingState_running

theorem witness_BchWordsAreFarApart : workingState.faulted = false ∧ 0#5 ≠ 31#5 ∧ 0#6 ≠ 63#6 :=
  ⟨workingState_running, by decide, by decide⟩

/-- The smallest and the largest configuration R121 accepts. -/
theorem witness_RsCfgConfiguresAndClears :
    workingState.faulted = false ∧ 1 ≤ (1#8).toNat ∧ (1#8).toNat ≤ 30 ∧ (0#8).toNat + (1#8).toNat ≤ 255 ∧
    1 ≤ (30#8).toNat ∧ (30#8).toNat ≤ 30 ∧ (225#8).toNat + (30#8).toNat ≤ 255 := by decide +kernel

theorem witness_GeneratorPolynomialIsMonicWithItsRoots :
    workingState.faulted = false ∧ 1 ≤ (30#8).toNat ∧ (30#8).toNat ≤ 30 ∧ (225#8).toNat + (30#8).toNat ≤ 255 ∧
    29 < (30#8).toNat := by decide +kernel

theorem witness_RsWrWritesOneByte :
    workingState.RsReady ∧ (2#8).toNat < workingState.rsK.toNat + workingState.rsR.toNat ∧
    largestRs.RsReady ∧ (254#8).toNat < largestRs.rsK.toNat + largestRs.rsR.toNat :=
  ⟨workingState_rsReady, by decide +kernel, largestRs_rsReady, by decide +kernel⟩

theorem witness_ReadCommandsAnswerOneElement :
    workingState.RsReady ∧ (2#8).toNat < workingState.rsK.toNat + workingState.rsR.toNat ∧
    workingState.synValid = true ∧ (1#8).toNat < workingState.rsR.toNat ∧ (2#8).toNat ≤ workingState.rsR.toNat ∧
    largestGrid.GridReady ∧ (176#8).toNat < largestGrid.gridN.toNat ∧
    workingState.faulted = false ∧ workingState.penValid = true :=
  ⟨workingState_rsReady, by decide +kernel, by decide +kernel, by decide +kernel, by decide +kernel,
    largestGrid_gridReady, by decide +kernel, workingState_running, by decide +kernel⟩

theorem witness_RsEncStoresTheRemainder :
    workingState.RsReady ∧ ∀ i, workingState.gen.read i = (genPoly workingState.rsR.toNat).getD i 0 :=
  ⟨workingState_rsReady, workingState_generator⟩

theorem witness_RsSyndStoresTheSyndromes : workingState.RsReady ∧ largestRs.RsReady :=
  ⟨workingState_rsReady, largestRs_rsReady⟩

theorem witness_EncodedBlockHasZeroSyndromes :
    workingState.Inv ∧ workingState.faulted = false ∧ workingState.rsValid = true :=
  ⟨workingState_inv, workingState_running, by decide +kernel⟩

theorem witness_OneWrongByteIsDetected :
    workingState.Inv ∧ workingState.faulted = false ∧ workingState.rsValid = true ∧
    (2#8).toNat < workingState.rsK.toNat + workingState.rsR.toNat ∧
    ∃ t, exec .rsEnc workingState = .next t ∧ 0xFF#8 ≠ t.cw.read (2#8).toNat :=
  ⟨workingState_inv, workingState_running, by decide +kernel, by decide +kernel, _, rfl, by decide +kernel⟩

theorem rsReady_of_byte (c : List Byte) : (rsState 1 2 [1, 3, 2] c).RsReady :=
  ⟨rfl, rfl, by simp [rsState], by simp [rsState], by simp [rsState]⟩

/-- Data bytes 01, 02 and their sum 03, under one configuration. -/
theorem witness_EncodingIsLinear : ∃ a b c : State, a.RsReady ∧ b.RsReady ∧ c.RsReady ∧ b.rsK = a.rsK ∧ c.rsK = a.rsK ∧
    b.rsR = a.rsR ∧ c.rsR = a.rsR ∧ (∀ i, b.gen.read i = a.gen.read i) ∧ (∀ i, c.gen.read i = a.gen.read i) ∧
    (∀ i, i < a.rsK.toNat → c.cw.read i = a.cw.read i ^^^ b.cw.read i) ∧ a.cw.read 0 = 1 ∧ b.cw.read 0 = 2 :=
  ⟨rsState 1 2 [1, 3, 2] [1], rsState 1 2 [1, 3, 2] [2], rsState 1 2 [1, 3, 2] [3], rsReady_of_byte _, rsReady_of_byte _,
    rsReady_of_byte _, rfl, rfl, rfl, rfl, fun _ => rfl, fun _ => rfl, by decide +kernel, by decide +kernel,
    by decide +kernel⟩

/-- The same data byte before two different contents of the parity positions. -/
theorem witness_EncodingIgnoresTheParityPositions : ∃ a b : State, a.RsReady ∧ b.RsReady ∧ b.rsK = a.rsK ∧
    b.rsR = a.rsR ∧ (∀ i, b.gen.read i = a.gen.read i) ∧ (∀ i, i < a.rsK.toNat → b.cw.read i = a.cw.read i) ∧
    b.cw.read 1 ≠ a.cw.read 1 :=
  ⟨rsState 1 2 [1, 3, 2] [1, 0x55], rsState 1 2 [1, 3, 2] [1, 0x66], rsReady_of_byte _, rsReady_of_byte _, rfl, rfl,
    fun _ => rfl, by decide +kernel, by decide +kernel⟩

theorem witness_GridCfgClearsTheGrid :
    largestGrid.faulted = false ∧ 1 ≤ (1#8).toNat ∧ (1#8).toNat ≤ 177 ∧ 1 ≤ (177#8).toNat ∧ (177#8).toNat ≤ 177 := by
  decide +kernel

theorem witness_GridWrWritesOneModule :
    largestGrid.GridReady ∧ (176#8).toNat < largestGrid.gridN.toNat ∧
    workingState.GridReady ∧ (0#8).toNat < workingState.gridN.toNat :=
  ⟨largestGrid_gridReady, by decide +kernel, workingState_gridReady, by decide +kernel⟩

/-- The smallest and the largest grid, for the six statements whose one hypothesis is `GridReady`. -/
theorem witness_PenaltyOneIsTheSumOverMaximalRuns : workingState.GridReady ∧ largestGrid.GridReady :=
  ⟨workingState_gridReady, largestGrid_gridReady⟩

theorem witness_PenaltyTwoCountsTheBlocks : workingState.GridReady ∧ largestGrid.GridReady :=
  ⟨workingState_gridReady, largestGrid_gridReady⟩

theorem witness_PenaltyThreeCountsTheWindows : workingState.GridReady ∧ largestGrid.GridReady :=
  ⟨workingState_gridReady, largestGrid_gridReady⟩

theorem witness_PenaltyFourIsTheExactBalance : workingState.GridReady ∧ largestGrid.GridReady :=
  ⟨workingState_gridReady, largestGrid_gridReady⟩

theorem witness_PenScoreStoresTheTotal : workingState.GridReady ∧ largestGrid.GridReady :=
  ⟨workingState_gridReady, largestGrid_gridReady⟩

theorem witness_PenaltiesAreBounded : workingState.GridReady ∧ largestGrid.GridReady :=
  ⟨workingState_gridReady, largestGrid_gridReady⟩

/-- The smallest such grid (V-P6). -/
theorem witness_UniformGridScoresItsFormula :
    (gridState 5 []).GridReady ∧ 5 ≤ (gridState 5 []).gridN.toNat ∧
    (∀ y x, y < 5 → x < 5 → (gridState 5 []).grid.module y x = false) :=
  ⟨⟨by decide +kernel, by decide +kernel, by decide +kernel, by decide +kernel⟩, by decide +kernel,
    fun y x _ _ => Grid.module_light y x⟩

theorem gridReady_of_dark (l : List (Nat × Nat)) : (gridState 3 l).GridReady := ⟨rfl, rfl, by simp [gridState], by simp [gridState]⟩

/-- A grid with one dark module beside the corner, and its transpose, its left-right and its top-bottom image. -/
theorem witness_PenaltyIsUnchangedBySymmetries : ∃ a b c d : State, a.GridReady ∧ b.GridReady ∧ c.GridReady ∧
    d.GridReady ∧ b.gridN = a.gridN ∧ c.gridN = a.gridN ∧ d.gridN = a.gridN ∧ a.gridN = 3 ∧
    (∀ y, y < 3 → ∀ x, x < 3 → b.grid.module y x = a.grid.module x y) ∧
    (∀ y, y < 3 → ∀ x, x < 3 → c.grid.module y x = a.grid.module y (3 - 1 - x)) ∧
    (∀ y, y < 3 → ∀ x, x < 3 → d.grid.module y x = a.grid.module (3 - 1 - y) x) :=
  ⟨gridState 3 [(0, 1), (1, 2)], gridState 3 [(1, 0), (2, 1)], gridState 3 [(0, 1), (1, 0)],
    gridState 3 [(2, 1), (1, 2)], gridReady_of_dark _, gridReady_of_dark _, gridReady_of_dark _, gridReady_of_dark _,
    rfl, rfl, rfl, rfl, by decide +kernel, by decide +kernel, by decide +kernel⟩

theorem witness_SelectorIsClearedAndRead : workingState.faulted = false := workingState_running

/-- Taken: the present total with a lower index. Not taken: with the same index. -/
theorem witness_SelUpdTakesTheBetterCandidate :
    workingState.faulted = false ∧ workingState.penValid = true ∧ workingState.penTotal = workingState.bestPen ∧
    (2#3).toNat < workingState.bestMask.toNat ∧
    ¬ (workingState.bestValid = false ∨ workingState.penTotal.toNat < workingState.bestPen.toNat ∨
      (workingState.penTotal = workingState.bestPen ∧ (3#3).toNat < workingState.bestMask.toNat)) := by decide +kernel

theorem witness_SelectorKeepsTheLowestPenaltyAndIndex :
    workingState.faulted = false ∧ 0x38000000#32 ∉ [0x39000005#32, 0x39000002#32] ∧
    0xFF000000#32 ∉ [0x39000005#32, 0x39000002#32] ∧
    (runWords workingState (0x38000000#32 :: [0x39000005#32, 0x39000002#32])).isSome = true ∧
    selCandidates workingState (0x38000000#32 :: [0x39000005#32, 0x39000002#32]) ≠ [] := by decide +kernel

/-- Every flag changes both ways. -/
theorem witness_FlagsChangeOnlyByTheirCommands :
    after (.gfLog 0) State.reset (·.faulted) = some true ∧ after .sreset faultedState (·.faulted) = some false ∧
    after (.rsCfg 1 2) State.reset (·.rsValid) = some true ∧ after .sreset workingState (·.rsValid) = some false ∧
    after .rsSynd (rsState 1 1 [1, 1] []) (fun t => (t.synValid, t.synZero)) = some (true, true) ∧
    after .rsEnc workingState (fun t => (t.synValid, t.synZero)) = some (false, false) ∧
    after (.gridCfg 1) State.reset (·.gridValid) = some true ∧ after .sreset workingState (·.gridValid) = some false ∧
    after .penScore (gridState 1 []) (·.penValid) = some true ∧
    after (.gridWr 0 0 0) workingState (·.penValid) = some false ∧
    after (.selUpd 0) (scoredState 1 0 0 0 100 100) (·.bestValid) = some true ∧
    after .selClr workingState (·.bestValid) = some false := by
  refine ⟨?_, ?_, ?_, ?_, ?_, ?_, ?_, ?_, ?_, ?_, ?_, ?_⟩ <;> decide +kernel

/-- Every group of registers changes. -/
theorem witness_RegistersChangeOnlyByTheirCommands :
    after (.gfDiv 5 0) State.reset (·.faultCmd) = some 0x02000500#32 ∧
    after (.rsCfg 3 2) workingState (fun t => (t.rsK, t.cw)) = some (3, []) ∧
    after (.rsWr 0 7) workingState (fun t => t.cw.read 0) = some 7 ∧
    after .rsSynd (rsState 1 1 [1, 1] [0x05]) (fun t => t.syn.read 0) = some 5 ∧
    after (.gridCfg 2) workingState (fun t => (t.gridN, t.pen4)) = some (2, 0) ∧
    after (.gridWr 0 0 1) workingState (fun t => t.grid.module 0 0) = some true ∧
    after .penScore (gridState 1 []) (·.pen4) = some 100 ∧
    after (.selUpd 1) workingState (·.bestMask) = some 1 := by
  refine ⟨?_, ?_, ?_, ?_, ?_, ?_, ?_, ?_⟩ <;> decide +kernel

theorem workingState_with_command_inv : (workingState.withFetchWord 32 0x13000000).Inv := { workingState_inv with }

theorem witness_StepKeepsTheInvariant :
    (workingState.withFetchWord 32 0x13000000).Inv ∧
    ∃ t, step (workingState.withFetchWord 32 0x13000000) = .next t ∧ t.synValid = false :=
  ⟨workingState_with_command_inv, _, rfl, by decide +kernel⟩

theorem witness_InvariantStatesNeverStop : workingState.Inv ∧ faultedState.Inv := ⟨workingState_inv, faultedState_inv⟩

theorem witness_AllOnesMeansFaulted :
    workingState.Inv ∧ 0x04000000#32 ≠ 0xF2000000#32 ∧
    ∃ t, execWord 0x04000000#32 workingState = .next t ∧ t.resp = 0xFFFFFFFF#32 :=
  ⟨workingState_inv, by decide, _, rfl, by decide +kernel⟩

theorem witness_RunSucceedsIffNoResponseIsAllOnes :
    workingState.Inv ∧ workingState.faulted = false ∧ 0xFF000000#32 ∉ [0x13000000#32, 0x04000000#32] :=
  ⟨workingState_inv, workingState_running, by decide⟩

theorem witness_PseudoCommandsLoadWhatTheyList :
    workingState.RsReady ∧ [0x20#8, 0x5B, 0x0B].length ≤ workingState.rsK.toNat + workingState.rsR.toNat ∧
    (gridState 3 []).GridReady ∧ (2#8).toNat < (gridState 3 []).gridN.toNat ∧
    [true, false, true].length = (gridState 3 []).gridN.toNat :=
  ⟨workingState_rsReady, by decide +kernel,
    ⟨by decide +kernel, by decide +kernel, by decide +kernel, by decide +kernel⟩, by decide +kernel, by decide +kernel⟩

theorem witness_AssemblerNeverTruncates : assemble "GRID_WR" [2, 0, 1] = some (.gridWr 2 0 1) := by decide +kernel

end Sys2Proof.Tests
end

section
/-! The reset values of R37, the constant tables of R101 and R102, and the obligation on both. -/

namespace Sys2Proof.Machine

open Sys2Proof.Reference

/-! ### Words and commands -/

/-- R72: a word that decodes does what its command does. -/
theorem execWord_of_decode {w : Word} {i : Instr} (h : decode w = .ok i) (s : State) : execWord w s = exec i s := by
  simp [execWord, h]

/-- R194: the one word of `SRESET`. -/
theorem decode_sresetWord : decode 0xFF000000#32 = .ok .sreset := by decide

@[simp] theorem exec_sreset (s : State) : exec .sreset s = .next s.hardReset := rfl

@[simp] theorem onEvent_reset (s : State) : onEvent .reset s = .next s.hardReset := rfl

/-! ### Reset values -/

/-- R25, R37: with the fault code and every flag clear `STATUS` reads 0. -/
theorem status_reset : State.reset.status = 0x00000000#32 := by simp [State.status, zext]

theorem atReset_reset : State.reset.AtReset := by
  constructor <;> simp [status_reset]

/-- R37 speaks of registers and arrays; pending port events are neither (log 2). -/
theorem State.AtReset.withPort {s : State} (h : s.AtReset) (port : List PortEvent) : (s.withPort port).AtReset :=
  { h with }

theorem atReset_hardReset (s : State) : s.hardReset.AtReset := hardReset_eq s ▸ atReset_reset.withPort s.port

/-! ### Constant tables -/

/-- R101: the table starts at the power 0. -/
@[simp] theorem expTable_zero : expTable 0 = 0x01#8 := by decide

/-- R101: each entry is the one before it times `ALPHA`, up to the entry at 255 that closes the period. -/
theorem expTable_succ : ∀ i < 255, expTable (i + 1) = timesAlpha (expTable i) := by decide +kernel

/-- R101: the period entry. -/
@[simp] theorem expTable_period : expTable 255 = 0x01#8 := by decide

/-- R102: the exponents listed are 0 to 254. -/
theorem logTable_le (a : Byte) : logTable a ≤ 254 := by
  revert a; decide +kernel

/-- R102: `LOG` answers the exponent at which `EXP` has the element. -/
theorem expTable_logTable : ∀ a : Byte, a ≠ 0 → expTable (logTable a) = a := by decide +kernel

/-- Settles O18: one lemma for the reset state, carried over any pending port events; the tables entry by entry. -/
theorem resetLeavesTheTableOfResetValues : Obligations.ResetLeavesTheTableOfResetValues := by
  refine ⟨atReset_reset, fun s => ⟨s.hardReset, exec_sreset s, ?_, onEvent_reset s, atReset_hardReset s⟩,
    expTable_zero, fun i hi => expTable_succ i (by omega), expTable_period,
    fun a ha => ⟨logTable_le a, expTable_logTable a ha⟩⟩
  rw [execWord_of_decode decode_sresetWord, exec_sreset]

end Sys2Proof.Machine
end

section
/-! Words that decode and words that do not: what each format of R71 accepts, that a word which decodes is the word of
its command and so matches a row of R73, and the obligation on illegal words (R75). -/

namespace Sys2Proof

/-! ### What the formats accept -/

theorem accept_eq_ok_iff {p : Prop} [Decidable p] {i j : Instr} {e : DecodeError} :
    (if p then .ok i else .error e : Except DecodeError Instr) = .ok j ↔ p ∧ i = j := by
  by_cases h : p <;> simp [h]

theorem formZ_eq_ok_iff {w : Word} {i j : Instr} :
    formZ w i = .ok j ↔ (f2Of w = 0#8 ∧ f1Of w = 0#8 ∧ f0Of w = 0#8) ∧ i = j := by
  rw [← low24_zero_iff]
  exact accept_eq_ok_iff

theorem formB_eq_ok_iff {w : Word} {mk : Byte → Instr} {j : Instr} :
    formB w mk = .ok j ↔ (f2Of w = 0#8 ∧ f1Of w = 0#8) ∧ mk (f0Of w) = j := accept_eq_ok_iff

theorem formBLow_eq_ok_iff {n : Nat} {w : Word} {mk : BitVec n → Instr} {j : Instr} :
    formBLow n w mk = .ok j ↔
      (f2Of w = 0#8 ∧ f1Of w = 0#8 ∧ (f0Of w).extractLsb' n (8 - n) = 0) ∧ mk ((f0Of w).extractLsb' 0 n) = j :=
  accept_eq_ok_iff

theorem formAB_eq_ok_iff {w : Word} {mk : Byte → Byte → Instr} {j : Instr} :
    formAB w mk = .ok j ↔ f2Of w = 0#8 ∧ mk (f1Of w) (f0Of w) = j := accept_eq_ok_iff

theorem formG_eq_ok_iff {w : Word} {mk : Byte → Byte → BitVec 1 → Instr} {j : Instr} :
    formG w mk = .ok j ↔
      (f0Of w).extractLsb' 1 7 = 0#7 ∧ mk (f2Of w) (f1Of w) ((f0Of w).extractLsb' 0 1) = j := accept_eq_ok_iff

theorem formGR_eq_ok_iff {w : Word} {mk : Byte → Byte → Instr} {j : Instr} :
    formGR w mk = .ok j ↔ f0Of w = 0#8 ∧ mk (f2Of w) (f1Of w) = j := accept_eq_ok_iff

/-! ### A word that decodes -/

/-- R74: a byte whose high bits are zero is its low bits, extended by zeros. -/
theorem setWidth_low_of_high_zero {n : Nat} {b : Byte} (h : b.extractLsb' n (8 - n) = 0) :
    (b.extractLsb' 0 n).setWidth 8 = b := by
  refine BitVec.eq_of_getLsbD_eq fun j hj => ?_
  by_cases hn : j < n
  · simp [hj, hn]
  · have hbit := congrArg (fun v => v.getLsbD (j - n)) h
    simp only [BitVec.getLsbD_extractLsb', show j - n < 8 - n by omega, show n + (j - n) = j by omega] at hbit
    simpa [hn] using hbit.symm

/-- R71, R73: a word that decodes is the word of its command, format by format: the fields the format keeps go back
where they were, and those it drops are zero. -/
theorem encode_eq_of_decode {w : Word} {i : Instr} (h : decode w = .ok i) : encode i = w := by
  rw [← wordOf_fields w]
  unfold decode at h
  split at h <;> rename_i hop <;>
    simp only [formZ_eq_ok_iff, formB_eq_ok_iff, formBLow_eq_ok_iff, formAB_eq_ok_iff, formG_eq_ok_iff,
      formGR_eq_ok_iff, reduceCtorEq] at h <;>
    obtain ⟨hzero, rfl⟩ := h
  -- format G (`GRID_WR`) writes the width of the high bits as 7, not as 8 - 1
  case h_16 => simp [encode, hop, setWidth_low_of_high_zero (n := 1) hzero]
  all_goals simp [encode, hop, hzero, setWidth_low_of_high_zero]

/-- R73: a word that matches a row carries the row's opcode, because every row fixes the opcode bits. -/
theorem opOf_of_matches {row : OpcodeRow} (hrow : row ∈ opcodeMap) {w : Word} (h : row.matches w = true) :
    opOf row.pattern = opOf w := by
  have hmask : ∀ row ∈ opcodeMap, opOf row.mask = 0xFF#8 := by decide
  have hpattern : w &&& row.mask = row.pattern := beq_iff_eq.1 h
  calc opOf row.pattern = opOf w &&& opOf row.mask := by rw [← hpattern, opOf, BitVec.extractLsb'_and]; rfl
    _ = opOf w := by rw [hmask row hrow]; exact BitVec.and_allOnes

/-- R73: the rows have distinct opcodes. -/
theorem opcodeMap_opcode_injective :
    ∀ row ∈ opcodeMap, ∀ row' ∈ opcodeMap, opOf row.pattern = opOf row'.pattern → row = row' := by decide

/-- R73: the opcodes of the map are the listed ones. -/
theorem opcodeMap_opcode_listed : ∀ row ∈ opcodeMap, opOf row.pattern ∈ Reference.listedOpcodes := by decide

open Laws.EncodedRow in
/-- R73: the word of every command matches the row that carries its mnemonic. -/
theorem exists_row_matches_encode (i : Instr) :
    ∃ row ∈ opcodeMap, row.mnemonic = Machine.mnemonicOf i ∧ row.matches (encode i) = true := by
  cases i with
  | nop => exact nop
  | gfMul a b => exact gfMul a b
  | gfDiv a b => exact gfDiv a b
  | gfExp i => exact gfExp i
  | gfLog a => exact gfLog a
  | rsCfg k r => exact rsCfg k r
  | rsWr idx byte => exact rsWr idx byte
  | rsRd idx => exact rsRd idx
  | rsEnc => exact rsEnc
  | rsSynd => exact rsSynd
  | rsRdsyn j => exact rsRdsyn j
  | rsRdgen i => exact rsRdgen i
  | bchFmt d => exact bchFmt d
  | bchVer v => exact bchVer v
  | gridCfg n => exact gridCfg n
  | gridWr row col v => exact gridWr row col v
  | gridRd row col => exact gridRd row col
  | penScore => exact penScore
  | penRd sel => exact penRd sel
  | selClr => exact selClr
  | selUpd m => exact selUpd m
  | selRd => exact selRd
  | statRd => exact statRd
  | idRd => exact idRd
  | fcmdRd => exact fcmdRd
  | sreset => exact sreset

/-- R72 steps 2 and 3: a word that decodes matches the row that carries its command's mnemonic. -/
theorem exists_row_of_decode {w : Word} {i : Instr} (h : decode w = .ok i) :
    ∃ row ∈ opcodeMap, row.mnemonic = Machine.mnemonicOf i ∧ row.matches w = true :=
  encode_eq_of_decode h ▸ exists_row_matches_encode i

/-- R72 step 2: a word that decodes has a listed opcode. -/
theorem opcode_listed_of_decode {w : Word} {i : Instr} (h : decode w = .ok i) : opOf w ∈ Reference.listedOpcodes := by
  obtain ⟨row, hrow, -, hmatch⟩ := exists_row_of_decode h
  exact opOf_of_matches hrow hmatch ▸ opcodeMap_opcode_listed row hrow

/-- R72 step 3: a word that decodes matches the row of its opcode: no "must be 0" bit of it is set. -/
theorem matches_of_decode {w : Word} {i : Instr} (h : decode w = .ok i) {row : OpcodeRow} (hrow : row ∈ opcodeMap)
    (hop : opOf row.pattern = opOf w) : row.matches w = true := by
  obtain ⟨row', hrow', -, hmatch⟩ := exists_row_of_decode h
  rwa [opcodeMap_opcode_injective row hrow row' hrow' (hop.trans (opOf_of_matches hrow' hmatch).symm)]

end Sys2Proof

namespace Sys2Proof.Machine

open Sys2Proof.Reference

/-! ### Illegal words -/

/-- R75: a word that does not decode is illegal, whatever the reason. -/
theorem execWord_of_not_decode {w : Word} (h : ∀ i, decode w ≠ .ok i) (s : State) :
    execWord w s = illegalWord w s := by
  unfold execWord
  split
  case h_1 i hi => exact absurd hi (h i)
  case h_2 => rfl

/-- R171: `PEN_RD` with a reserved selector is treated as an illegal word by its own rule (log 6). -/
theorem exec_penRd_of_not_ok {sel : BitVec 3} (h : penRdOk sel = false) (s : State) :
    exec (.penRd sel) s = illegalWord (encode (.penRd sel)) s := by
  rw [illegalWord_next]
  cases hf : s.faulted <;> simp [exec, execPenRd, hf, h]

/-- R75 (c): what the word of such a `PEN_RD` does. -/
theorem execWord_penRd_of_not_ok {w : Word} {sel : BitVec 3} (hw : decode w = .ok (.penRd sel))
    (h : penRdOk sel = false) (s : State) : execWord w s = illegalWord w s := by
  rw [execWord_of_decode hw, exec_penRd_of_not_ok h, encode_eq_of_decode hw]

/-- R75: in each of the rule's three cases a word is handled as an illegal word. -/
theorem execWord_of_illegal {w : Word} (h : IllegalWord w) (s : State) : execWord w s = illegalWord w s := by
  rcases h with hunlisted | ⟨row, hrow, hop, hbits⟩ | rfl | rfl | rfl
  · exact execWord_of_not_decode (fun i hi => hunlisted (opcode_listed_of_decode hi)) s
  · exact execWord_of_not_decode (fun i hi => hbits (beq_iff_eq.1 (matches_of_decode hi hrow hop))) s
  · exact execWord_penRd_of_not_ok (sel := 5) (by decide) (by decide) s
  · exact execWord_penRd_of_not_ok (sel := 6) (by decide) (by decide) s
  · exact execWord_penRd_of_not_ok (sel := 7) (by decide) (by decide) s

/-- Settles O6: every illegal word takes the one path of `illegalWord`, which takes a fault in `RUN` and ignores the
word in `FAULTED`. -/
theorem illegalWordsRaiseIllegalCommand : Obligations.IllegalWordsRaiseIllegalCommand := by
  intro s w hw
  rw [execWord_of_illegal hw, illegalWord_next]
  constructor
  · intro hrun
    rw [if_neg (by simp [hrun])]
    rfl
  · intro hfaulted
    rw [if_pos hfaulted]
    rfl

end Sys2Proof.Machine

end

section
/-! The field GF(256) (40_gf_arithmetic.md): every non-zero element is a power of `ALPHA`, on which multiplication and
division add and subtract exponents, and multiplying by `ALPHA` is linear; the obligation on the laws of R106. -/

namespace Sys2Proof.Machine

open Sys2Proof.Reference

/-! ### Powers of `ALPHA` -/

/-- R101: the table, read modulo its period, holds the powers of `ALPHA`. -/
theorem expTable_mod (n : Nat) : expTable (n % 255) = alphaPow n := by
  induction n with
  | zero => exact expTable_zero
  | succ n ih =>
    rw [alphaPow, ← ih, ← expTable_succ (n % 255) (by omega)]
    by_cases hlast : n % 255 = 254
    · rw [hlast, show (n + 1) % 255 = 0 by omega, expTable_zero, expTable_period]
    · rw [show (n + 1) % 255 = n % 255 + 1 by omega]

/-- R101: the powers of `ALPHA` repeat after 255. -/
theorem alphaPow_eq_of_mod_eq {m n : Nat} (h : m % 255 = n % 255) : alphaPow m = alphaPow n := by
  rw [← expTable_mod, h, expTable_mod]

/-- R102: the two tables undo each other, in the direction from exponents. -/
theorem logTable_expTable : ∀ i < 255, logTable (expTable i) = i := by decide +kernel

theorem logTable_alphaPow (n : Nat) : logTable (alphaPow n) = n % 255 := by
  rw [← expTable_mod, logTable_expTable _ (Nat.mod_lt n (by decide))]

/-- R101: the entries of the table are elements other than zero. -/
theorem expTable_ne_zero : ∀ i < 255, expTable i ≠ 0#8 := by decide +kernel

@[simp] theorem alphaPow_ne_zero (n : Nat) : alphaPow n ≠ 0#8 := by
  rw [← expTable_mod]
  exact expTable_ne_zero _ (Nat.mod_lt n (by decide))

theorem alphaPow_logTable {a : Byte} (h : a ≠ 0#8) : alphaPow (logTable a) = a := by
  have hlog := logTable_le a
  rw [← expTable_mod, Nat.mod_eq_of_lt (by omega), expTable_logTable a h]

/-- R101: `ALPHA` is primitive. -/
theorem eq_zero_or_alphaPow (a : Byte) : a = 0#8 ∨ ∃ n, a = alphaPow n :=
  (eq_or_ne a 0#8).imp_right fun h => ⟨logTable a, (alphaPow_logTable h).symm⟩

/-! ### Multiplication and division on powers of `ALPHA` -/

@[simp] theorem gfMul_zero_left (a : Byte) : gfMul 0#8 a = 0#8 := by simp [gfMul]

@[simp] theorem gfMul_zero_right (a : Byte) : gfMul a 0#8 = 0#8 := by simp [gfMul]

/-- R104: multiplication adds exponents. -/
theorem gfMul_alphaPow (m n : Nat) : gfMul (alphaPow m) (alphaPow n) = alphaPow (m + n) := by
  simp [gfMul, logTable_alphaPow, expTable_mod]

theorem gfMul_comm (a b : Byte) : gfMul a b = gfMul b a := by
  simp only [gfMul, or_comm, Nat.add_comm]

theorem gfMul_assoc (a b c : Byte) : gfMul (gfMul a b) c = gfMul a (gfMul b c) := by
  obtain rfl | ⟨l, rfl⟩ := eq_zero_or_alphaPow a
  · simp
  obtain rfl | ⟨m, rfl⟩ := eq_zero_or_alphaPow b
  · simp
  obtain rfl | ⟨n, rfl⟩ := eq_zero_or_alphaPow c
  · simp
  simp only [gfMul_alphaPow, Nat.add_assoc]

@[simp] theorem gfMul_one_left (a : Byte) : gfMul 0x01#8 a = a := by
  obtain rfl | ⟨n, rfl⟩ := eq_zero_or_alphaPow a
  · exact gfMul_zero_right _
  · exact (gfMul_alphaPow 0 n).trans (by rw [Nat.zero_add])

/-- R106: there are no divisors of zero, since a product of powers of `ALPHA` is one. -/
theorem eq_zero_or_eq_zero_of_gfMul {a b : Byte} (h : gfMul a b = 0#8) : a = 0#8 ∨ b = 0#8 := by
  obtain ha | ⟨m, rfl⟩ := eq_zero_or_alphaPow a
  · exact .inl ha
  obtain hb | ⟨n, rfl⟩ := eq_zero_or_alphaPow b
  · exact .inr hb
  exact absurd (gfMul_alphaPow m n ▸ h) (alphaPow_ne_zero _)

/-- R105: division subtracts exponents. -/
theorem gfDiv_eq_alphaPow {a : Byte} (ha : a ≠ 0#8) (b : Byte) :
    gfDiv a b = alphaPow (logTable a + 255 - logTable b) := by
  rw [gfDiv, if_neg ha, expTable_mod]

theorem gfMul_gfDiv_cancel (a : Byte) {b : Byte} (hb : b ≠ 0#8) : gfMul (gfDiv a b) b = a := by
  by_cases ha : a = 0#8
  · simp [gfDiv, ha]
  have hlog := logTable_le b
  calc gfMul (gfDiv a b) b
      = gfMul (alphaPow (logTable a + 255 - logTable b)) (alphaPow (logTable b)) := by
        rw [gfDiv_eq_alphaPow ha, alphaPow_logTable hb]
    _ = alphaPow (logTable a + 255) := by
        rw [gfMul_alphaPow, show logTable a + 255 - logTable b + logTable b = logTable a + 255 by omega]
    _ = alphaPow (logTable a) := alphaPow_eq_of_mod_eq (by simp)
    _ = a := alphaPow_logTable ha

/-- R102, R106: the exponent of the inverse, as `LOG[0x01]` is 0. -/
theorem gfDiv_one (a : Byte) : gfDiv 0x01#8 a = expTable ((255 - logTable a) % 255) := by
  have hlog : logTable 0x01#8 = 0 := logTable_alphaPow 0
  simp [gfDiv, hlog]

theorem gfPow_alphaPow (n k : Nat) : gfPow (alphaPow n) k = alphaPow (n * k) := by
  induction k with
  | zero => rfl
  | succ k ih => rw [gfPow, ih, gfMul_alphaPow, Nat.mul_succ, Nat.add_comm]

theorem gfPow_255 {a : Byte} (h : a ≠ 0#8) : gfPow a 255 = 0x01#8 := by
  calc gfPow a 255 = alphaPow (logTable a * 255) := by rw [← gfPow_alphaPow, alphaPow_logTable h]
    _ = alphaPow 0 := alphaPow_eq_of_mod_eq (by simp)

/-! ### Multiplication distributes over xor -/

/-- R101's step on bits: a shift, and a xor with the low byte of the field polynomial when the top bit is set. -/
theorem timesAlpha_eq_shift : ∀ e : Byte, timesAlpha e = e <<< 1 ^^^ bif e.msb then 0x1D#8 else 0#8 := by
  decide +kernel

theorem timesAlpha_xor (a b : Byte) : timesAlpha (a ^^^ b) = timesAlpha a ^^^ timesAlpha b := by
  have hreduce : ∀ p q : Bool, (bif p ^^ q then 0x1D#8 else 0#8) =
      (bif p then 0x1D#8 else 0#8) ^^^ bif q then 0x1D#8 else 0#8 := by decide
  simp only [timesAlpha_eq_shift, BitVec.shiftLeft_xor_distrib, BitVec.msb_xor, hreduce]
  ac_rfl

/-- R101, R104: multiplying by a power of `ALPHA` takes one step of R101 per exponent. -/
theorem gfMul_alphaPow_succ (n : Nat) (b : Byte) :
    gfMul (alphaPow (n + 1)) b = timesAlpha (gfMul (alphaPow n) b) := by
  obtain rfl | ⟨m, rfl⟩ := eq_zero_or_alphaPow b
  · simp [timesAlpha]
  · rw [gfMul_alphaPow, gfMul_alphaPow, Nat.add_right_comm, alphaPow]

/-- R106: each step of R101 is linear, so multiplying by a power of `ALPHA` is. -/
theorem gfMul_xor (a b c : Byte) : gfMul a (b ^^^ c) = gfMul a b ^^^ gfMul a c := by
  obtain rfl | ⟨n, rfl⟩ := eq_zero_or_alphaPow a
  · simp
  induction n with
  | zero => simp [alphaPow]
  | succ n ih => simp only [gfMul_alphaPow_succ, ih, timesAlpha_xor]

/-- Settles O23: the laws hold on exponents, because every non-zero element is a power of `ALPHA`; distributivity holds
because R101's step is linear. -/
theorem fieldArithmeticLaws : Obligations.FieldArithmeticLaws := by
  refine ⟨gfMul_comm, gfMul_assoc, gfMul_xor, gfMul_one_left, gfMul_zero_left, fun a ha => ⟨?_, gfDiv_one a⟩,
    fun a b hb => gfMul_gfDiv_cancel a hb, fun _ _ => eq_zero_or_eq_zero_of_gfMul, fun _ ha => gfPow_255 ha⟩
  rw [gfMul_comm, gfMul_gfDiv_cancel 0x01 ha]

end Sys2Proof.Machine

end

section
/-! Systematic binary codes (42_bch_checksum.md): the remainder of R140 is linear and shorter than its generator, so a
payload followed by its remainder is a multiple of the generator and two words are as far apart as the word of the
payloads' xor is from zero; the obligation on the properties of R148. -/

namespace Sys2Proof.Machine

open Sys2Proof.Reference

/-! ### The remainder of R140 -/

/-- R140: the loop subtracts multiples of `g` chosen bit by bit, so it is linear. -/
theorem bchLoop_xor (g m n s t : Nat) : bchLoop g m n (s ^^^ t) = bchLoop g m n s ^^^ bchLoop g m n t := by
  induction n generalizing s t with
  | zero => rfl
  | succ n ih =>
    simp only [bchLoop, ← ih, Nat.testBit_xor]
    congr 1
    cases s.testBit (m + n) <;> cases t.testBit (m + n) <;> simp [Nat.xor_comm, Nat.xor_left_comm]

/-- R140: rounds above the number's highest bit do nothing. -/
theorem bchLoop_add_of_lt (g : Nat) {m n t : Nat} (h : t < 2 ^ (m + n)) (k : Nat) :
    bchLoop g m (n + k) t = bchLoop g m n t := by
  induction k with
  | zero => rfl
  | succ k ih =>
    have hbit : t.testBit (m + (n + k)) = false :=
      Nat.testBit_lt_two_pow (h.trans_le (Nat.pow_le_pow_right (by decide) (by omega)))
    simp [bchLoop, hbit, ih]

theorem lt_two_pow_bitLength (v : Nat) : v < 2 ^ bitLength v := by
  unfold bitLength
  split
  · simp [*]
  · exact Nat.lt_log2_self

/-- R140: the loop may start at any bit above the number's highest. -/
theorem bchRem_eq_bchLoop (g : Nat) {m n v : Nat} (h : v < 2 ^ (m + n)) : bchRem v g m = bchLoop g m n v := by
  have hlen : v < 2 ^ (m + (bitLength v - m)) :=
    (lt_two_pow_bitLength v).trans_le (Nat.pow_le_pow_right (by decide) (by omega))
  calc bchRem v g m = bchLoop g m (bitLength v - m + n) v := (bchLoop_add_of_lt g hlen n).symm
    _ = bchLoop g m n v := by rw [Nat.add_comm, bchLoop_add_of_lt g h]

theorem bchRem_of_lt (g : Nat) {m v : Nat} (h : v < 2 ^ m) : bchRem v g m = v := bchRem_eq_bchLoop g (n := 0) h

theorem bchRem_xor (g m a b : Nat) : bchRem (a ^^^ b) g m = bchRem a g m ^^^ bchRem b g m := by
  have ha : a < 2 ^ (m + (a + b)) := Nat.lt_two_pow_self.trans_le (Nat.pow_le_pow_right (by decide) (by omega))
  have hb : b < 2 ^ (m + (a + b)) := Nat.lt_two_pow_self.trans_le (Nat.pow_le_pow_right (by decide) (by omega))
  rw [bchRem_eq_bchLoop g (Nat.xor_lt_two_pow ha hb), bchRem_eq_bchLoop g ha, bchRem_eq_bchLoop g hb, bchLoop_xor]

/-- R140's premise on a generator: bit `m` is its highest. -/
def HasDegree (g m : Nat) : Prop := g.testBit m = true ∧ g < 2 ^ (m + 1)

theorem hasDegree_g15 : HasDegree Config.g15 10 := ⟨by decide, by decide⟩

theorem hasDegree_g18 : HasDegree Config.g18 12 := ⟨by decide, by decide⟩

section
variable {g m : Nat} (hg : HasDegree g m)
include hg

/-- R140: each round clears the bit it looks at, so at most `m` bits are left. -/
theorem bchLoop_lt {n t : Nat} (ht : t < 2 ^ (m + n)) : bchLoop g m n t < 2 ^ m := by
  obtain ⟨htop, hlt⟩ := hg
  induction n generalizing t with
  | zero => exact ht
  | succ n ih =>
    refine ih (Nat.lt_pow_two_of_testBit _ fun i hi => ?_)
    obtain rfl | hi := hi.eq_or_lt
    · cases hbit : t.testBit (m + n) <;> simp [hbit, htop]
    · have htbit : t.testBit i = false :=
        Nat.testBit_lt_two_pow (ht.trans_le (Nat.pow_le_pow_right (by decide) hi))
      have hgbit : g.testBit (i - n) = false :=
        Nat.testBit_lt_two_pow (hlt.trans_le (Nat.pow_le_pow_right (by decide) (by omega)))
      split <;> simp [htbit, hgbit]

theorem bchRem_lt (v : Nat) : bchRem v g m < 2 ^ m :=
  bchLoop_lt hg ((lt_two_pow_bitLength v).trans_le (Nat.pow_le_pow_right (by decide) (by omega)))

end

/-! ### Words of a systematic code -/

/-- The word of R141 (before the mask) and R144 over a generator of degree `m`: the payload and its check bits. -/
def bchWord (g m d : Nat) : Nat := (d <<< m) ||| bchRem (d <<< m) g m

theorem formatRaw_eq_bchWord : formatRaw = bchWord Config.g15 10 := rfl

theorem versionWord_eq_bchWord : versionWord = bchWord Config.g18 12 := rfl

section
variable {g m : Nat} (hg : HasDegree g m)
include hg

/-- R141, R144: payload and check bits share no position. -/
theorem bchWord_eq_xor (d : Nat) : bchWord g m d = (d <<< m) ^^^ bchRem (d <<< m) g m := by
  refine Nat.eq_of_testBit_eq fun i => ?_
  by_cases hi : m ≤ i
  · have hrem : (bchRem (d <<< m) g m).testBit i = false :=
      Nat.testBit_lt_two_pow ((bchRem_lt hg _).trans_le (Nat.pow_le_pow_right (by decide) hi))
    simp [bchWord, hrem]
  · simp [bchWord, hi]

theorem bchWord_xor (a b : Nat) : bchWord g m (a ^^^ b) = bchWord g m a ^^^ bchWord g m b := by
  simp only [bchWord_eq_xor hg, Nat.shiftLeft_xor_distrib, bchRem_xor]
  ac_rfl

/-- R148: the check bits are their own remainder, and cancel the payload's. -/
theorem bchRem_bchWord (d : Nat) : bchRem (bchWord g m d) g m = 0 := by
  rw [bchWord_eq_xor hg, bchRem_xor, bchRem_of_lt g (bchRem_lt hg _), Nat.xor_self]

theorem testBit_bchWord_add (d i : Nat) : (bchWord g m d).testBit (m + i) = d.testBit i := by
  have hrem : (bchRem (d <<< m) g m).testBit (m + i) = false :=
    Nat.testBit_lt_two_pow ((bchRem_lt hg _).trans_le (Nat.pow_le_pow_right (by decide) (by omega)))
  simp [bchWord, hrem]

/-- R148: the payload is the word's top bits. -/
theorem extractLsb'_bchWord {k : Nat} (hk : m + k ≤ 32) (d : BitVec k) :
    (BitVec.ofNat 32 (bchWord g m d.toNat)).extractLsb' m k = d := by
  refine BitVec.eq_of_getLsbD_eq fun i hi => ?_
  simp only [BitVec.getLsbD_extractLsb', BitVec.getLsbD_ofNat, hi, show m + i < 32 by omega, decide_true, Bool.true_and,
    testBit_bchWord_add hg, BitVec.testBit_toNat]

end

/-! ### Distance -/

theorem bitsThatDiffer_eq_xor_zero (a b : Word) : bitsThatDiffer a b = bitsThatDiffer (a ^^^ b) 0#32 := by
  simp [bitsThatDiffer, bne]

/-- A mask put on both words does not change their distance. -/
theorem bitsThatDiffer_xor_right (a b c : Word) : bitsThatDiffer (a ^^^ c) (b ^^^ c) = bitsThatDiffer a b := by
  rw [bitsThatDiffer_eq_xor_zero, bitsThatDiffer_eq_xor_zero a b]
  congr 1
  rw [BitVec.xor_comm b c, BitVec.xor_assoc, ← BitVec.xor_assoc c c b, BitVec.xor_self, BitVec.zero_xor]

/-- In a linear code the distance of two words is the weight of the word of the payloads' xor. -/
theorem bitsThatDiffer_bchWord {g m k : Nat} (hg : HasDegree g m) (a b : BitVec k) :
    bitsThatDiffer (BitVec.ofNat 32 (bchWord g m a.toNat)) (BitVec.ofNat 32 (bchWord g m b.toNat)) =
      bitsThatDiffer (BitVec.ofNat 32 (bchWord g m (a ^^^ b).toNat)) 0#32 := by
  rw [bitsThatDiffer_eq_xor_zero, ← BitVec.ofNat_xor, ← bchWord_xor hg, BitVec.toNat_xor]

/-- R147's first table: the least weight of a raw format word other than zero. -/
theorem seven_le_weight_formatRaw :
    ∀ d : BitVec 5, d ≠ 0#5 → 7 ≤ bitsThatDiffer (BitVec.ofNat 32 (formatRaw d.toNat)) 0#32 := by decide +kernel

/-- R147's second table: the least weight of a version word other than zero. -/
theorem eight_le_weight_versionWord :
    ∀ v : BitVec 6, v ≠ 0#6 → 8 ≤ bitsThatDiffer (BitVec.ofNat 32 (versionWord v.toNat)) 0#32 := by decide +kernel

theorem seven_le_bitsThatDiffer_formatRaw {a b : BitVec 5} (h : a ≠ b) :
    7 ≤ bitsThatDiffer (BitVec.ofNat 32 (formatRaw a.toNat)) (BitVec.ofNat 32 (formatRaw b.toNat)) := by
  rw [formatRaw_eq_bchWord, bitsThatDiffer_bchWord hasDegree_g15, ← formatRaw_eq_bchWord]
  exact seven_le_weight_formatRaw _ (mt BitVec.xor_eq_zero_iff.1 h)

theorem eight_le_bitsThatDiffer_versionWord {a b : BitVec 6} (h : a ≠ b) :
    8 ≤ bitsThatDiffer (BitVec.ofNat 32 (versionWord a.toNat)) (BitVec.ofNat 32 (versionWord b.toNat)) := by
  rw [versionWord_eq_bchWord, bitsThatDiffer_bchWord hasDegree_g18, ← versionWord_eq_bchWord]
  exact eight_le_weight_versionWord _ (mt BitVec.xor_eq_zero_iff.1 h)

/-! ### The words the commands answer -/

/-- R141: the mask covers the whole raw word. -/
theorem ofNat_formatWord (d : Nat) : BitVec.ofNat 32 (formatWord d) = BitVec.ofNat 32 (formatRaw d) ^^^ 0x5412#32 :=
  BitVec.ofNat_xor

/-- Settles O26: both codes are the systematic code of a generator, which is linear, so the distance of two words is a
word's weight (the least weight is read off the 31 and 63 words other than zero); the mask cancels in the distance. -/
theorem bchWordsAreFarApart : Obligations.BchWordsAreFarApart := by
  refine ⟨fun d => bchRem_bchWord hasDegree_g15 _, fun v => bchRem_bchWord hasDegree_g18 _,
    fun a b => ?_, fun a b => ?_, fun a b s hs hab => ?_, fun a b s hs hab => ?_⟩
  · rw [BitVec.toNat_xor, formatRaw_eq_bchWord, bchWord_xor hasDegree_g15]
  · rw [BitVec.toNat_xor, versionWord_eq_bchWord, bchWord_xor hasDegree_g18]
  · refine ⟨_, _, exec_of_completes s (.bchFmt a) hs, exec_of_completes s (.bchFmt b) hs, ?_, rfl, ?_⟩
    · simpa only [effect, setResp_resp, ofNat_formatWord, bitsThatDiffer_xor_right]
        using seven_le_bitsThatDiffer_formatRaw hab
    · rw [effect, setResp_resp, ofNat_formatWord, BitVec.xor_assoc, BitVec.xor_self, BitVec.xor_zero]
      exact extractLsb'_bchWord hasDegree_g15 (by decide) a
  · exact ⟨_, _, exec_of_completes s (.bchVer a) hs, exec_of_completes s (.bchVer b) hs,
      eight_le_bitsThatDiffer_versionWord hab, rfl, extractLsb'_bchWord hasDegree_g18 (by decide) a⟩

end Sys2Proof.Machine

end

section
/-! The mask selector over a run (43_penalty.md): a word either leaves the selector's registers alone or offers them one
candidate, so the selector always holds the best of what has been offered since it was cleared; the obligation on
R175. -/

namespace Sys2Proof.Machine

/-! ### What the selector holds -/

/-- The registers of the selector (R34). -/
def State.selector (s : State) : Bool × BitVec 3 × Word := (s.bestValid, s.bestMask, s.bestPen)

/-- R175: the selector holds the least total among the candidates `l` and the least mask index with that total, or
nothing when there are no candidates. -/
structure HoldsBest (s : State) (l : List (BitVec 3 × Nat)) : Prop where
  empty : s.bestValid = false → l = []
  offered : s.bestValid = true → (s.bestMask, s.bestPen.toNat) ∈ l
  least : ∀ c ∈ l, s.bestPen.toNat ≤ c.2 ∧ (c.2 = s.bestPen.toNat → s.bestMask.toNat ≤ c.1.toNat)

theorem HoldsBest.of_selector_eq {s t : State} {l : List (BitVec 3 × Nat)} (h : HoldsBest s l)
    (hst : t.selector = s.selector) : HoldsBest t l := by
  simp only [State.selector, Prod.mk.injEq] at hst
  obtain ⟨hvalid, hmask, hpen⟩ := hst
  constructor <;> simp only [hvalid, hmask, hpen]
  exacts [h.empty, h.offered, h.least]

theorem HoldsBest.bestValid {s : State} {l : List (BitVec 3 × Nat)} (h : HoldsBest s l) (hl : l ≠ []) :
    s.bestValid = true :=
  Bool.eq_true_of_not_eq_false (mt h.empty hl)

theorem holdsBest_nil {s : State} (h : s.bestValid = false) : HoldsBest s [] :=
  ⟨fun _ => rfl, by simp [h], by simp⟩

/-- R173: when a candidate is taken. -/
theorem improves_iff (s : State) (m : BitVec 3) :
    s.improves m = true ↔ s.bestValid = false ∨ s.penTotal.toNat < s.bestPen.toNat ∨
      (s.penTotal.toNat = s.bestPen.toNat ∧ m.toNat < s.bestMask.toNat) := by
  simp [State.improves, BitVec.toNat_eq, or_assoc]

/-- R173: `SEL_UPD` keeps the better of the best so far and the new candidate. -/
theorem HoldsBest.selUpd {s : State} {l : List (BitVec 3 × Nat)} (h : HoldsBest s l) (m : BitVec 3) :
    HoldsBest (effect s (.selUpd m)) (l ++ [(m, s.penTotal.toNat)]) := by
  simp only [effect]
  split
  next htaken =>
    rw [improves_iff] at htaken
    refine ⟨by simp, by simp, fun c hc => ?_⟩
    obtain hc | rfl : c ∈ l ∨ c = _ := by simpa using hc
    · have hvalid := h.bestValid (List.ne_nil_of_mem hc)
      obtain ⟨htotal, hmask⟩ := h.least c hc
      simp only [hvalid, Bool.true_eq_false, false_or] at htaken
      simp only [setResp_bestPen, setResp_bestMask, takeBest_bestPen, takeBest_bestMask]
      omega
    · simp
  next hkept =>
    rw [improves_iff, not_or, Bool.not_eq_false] at hkept
    obtain ⟨hvalid, hworse⟩ := hkept
    refine ⟨by simp [hvalid], fun _ => List.mem_append_left _ (h.offered hvalid), fun c hc => ?_⟩
    obtain hc | rfl : c ∈ l ∨ c = _ := by simpa using hc
    · exact h.least c hc
    · simp only [setResp_bestPen, setResp_bestMask]
      omega

/-! ### What one word does to the selector -/

/-- R34: a command that completes leaves the selector alone, but for `SEL_CLR`, `SEL_UPD` and `SRESET`. -/
theorem effect_selector (s : State) {i : Instr} (hclr : i ≠ .selClr) (hreset : i ≠ .sreset)
    (hupd : ∀ m, i ≠ .selUpd m) : (effect s i).selector = s.selector := by
  cases i
  case selClr => exact absurd rfl hclr
  case sreset => exact absurd rfl hreset
  case selUpd m => exact absurd rfl (hupd m)
  all_goals rfl

theorem effect_selUpd_faulted (s : State) (m : BitVec 3) : (effect s (.selUpd m)).faulted = s.faulted := by
  simp only [effect]
  split <;> simp

theorem selCandidates_cons {s t : State} {w : Word} (h : execWord w s = .next t) (ws : List Word) :
    selCandidates s (w :: ws) = selCandidates s [w] ++ selCandidates t ws := by
  simp only [selCandidates, h]
  split
  next ht =>
    cases ht
    split <;> rfl
  next ht _ =>
    cases ht
    rfl
  next hstop _ => exact absurd rfl (hstop t)

/-- R175: a word that is no `SEL_UPD` offers nothing. -/
theorem selCandidates_of_not_selUpd {s : State} {w : Word} (h : ∀ m, decode w ≠ .ok (.selUpd m)) :
    selCandidates s [w] = [] := by
  simp only [selCandidates]
  split
  next m _ hm _ => exact absurd hm (h m)
  all_goals rfl

/-- R175: a `SEL_UPD` that was not accepted offers nothing, nor does any other word that leaves the block `FAULTED`. -/
theorem selCandidates_of_faulted {s t : State} {w : Word} (h : execWord w s = .next t) (ht : t.faulted = true) :
    selCandidates s [w] = [] := by
  simp only [selCandidates, h]
  split
  next hnext =>
    cases hnext
    exact if_pos ht
  all_goals rfl

/-- R175: an accepted `SEL_UPD` offers its mask index with the present total. -/
theorem selCandidates_of_accepted {s t : State} {w : Word} {m : BitVec 3} (hw : decode w = .ok (.selUpd m))
    (h : execWord w s = .next t) (ht : t.faulted = false) : selCandidates s [w] = [(m, s.penTotal.toNat)] := by
  simp [selCandidates, hw, h, ht]

theorem HoldsBest.of_faulted {s t : State} {w : Word} {l : List (BitVec 3 × Nat)} (h : HoldsBest s l)
    (hw : execWord w s = .next t) (ht : t.faulted = true) (hst : t.selector = s.selector) :
    HoldsBest t (l ++ selCandidates s [w]) := by
  rw [selCandidates_of_faulted hw ht, List.append_nil]
  exact h.of_selector_eq hst

theorem decode_ne_of_ne_encode {w : Word} {i : Instr} (h : w ≠ encode i) : decode w ≠ .ok i :=
  fun hi => h (encode_eq_of_decode hi).symm

/-- R175, the step: what a word offers is what the selector is updated with. -/
theorem HoldsBest.afterWord {s t : State} {w : Word} {l : List (BitVec 3 × Nat)} (h : HoldsBest s l)
    (hclr : decode w ≠ .ok .selClr) (hreset : decode w ≠ .ok .sreset) (hw : execWord w s = .next t) :
    HoldsBest t (l ++ selCandidates s [w]) := by
  cases hi : decode w with
  | error e =>
    have hill : (if s.faulted then s.ignore else s.raise .illegalCmd w) = t := by
      simpa [execWord_of_not_decode, illegalWord_next, hi] using hw
    split at hill <;> subst hill
    next hs => exact h.of_faulted hw hs rfl
    next => exact h.of_faulted hw rfl rfl
  | ok i =>
    rw [hi, ne_eq, Except.ok.injEq] at hclr hreset
    have hexec : exec i s = .next t := by rwa [execWord_of_decode hi] at hw
    rcases exec_cases hexec with ⟨hs, rfl⟩ | ⟨-, c, rfl⟩ | ⟨hc, rfl⟩
    · exact h.of_faulted hw hs rfl
    · exact h.of_faulted hw rfl rfl
    · by_cases hupd : ∃ m, i = .selUpd m
      · obtain ⟨m, rfl⟩ := hupd
        obtain ⟨hs, -⟩ := hc
        rw [selCandidates_of_accepted hi hw ((effect_selUpd_faulted s m).trans hs)]
        exact h.selUpd m
      · push Not at hupd
        rw [selCandidates_of_not_selUpd (by simpa [hi] using hupd), List.append_nil]
        exact h.of_selector_eq (effect_selector s hclr hreset hupd)

/-! ### Runs -/

/-- R11: a run that goes to its end does so word by word. -/
theorem runWords_cons_eq_some {s t : State} {w : Word} {ws rs : List Word} (h : runWords s (w :: ws) = some (rs, t)) :
    ∃ u rs', execWord w s = .next u ∧ runWords u ws = some (rs', t) := by
  simp only [runWords] at h
  split at h
  next u hu =>
    obtain ⟨⟨rs', t'⟩, hrun, heq⟩ := Option.map_eq_some_iff.1 h
    obtain ⟨-, rfl⟩ := Prod.mk.inj heq
    exact ⟨u, rs', hu, hrun⟩
  all_goals cases h

/-- R175, the run: the candidates so far and those the run offers. -/
theorem HoldsBest.afterRun {ws : List Word} (hclr : encode .selClr ∉ ws) (hreset : encode .sreset ∉ ws)
    {s t : State} {rs : List Word} {l : List (BitVec 3 × Nat)} (h : HoldsBest s l)
    (hrun : runWords s ws = some (rs, t)) : HoldsBest t (l ++ selCandidates s ws) := by
  induction ws generalizing s rs l with
  | nil =>
    obtain ⟨-, rfl⟩ : [] = rs ∧ s = t := by simpa [runWords] using hrun
    simpa [selCandidates] using h
  | cons w ws ih =>
    obtain ⟨u, rs', hw, hrun⟩ := runWords_cons_eq_some hrun
    obtain ⟨hwclr, hclr⟩ := List.ne_and_not_mem_of_not_mem_cons hclr
    obtain ⟨hwreset, hreset⟩ := List.ne_and_not_mem_of_not_mem_cons hreset
    rw [selCandidates_cons hw, ← List.append_assoc]
    exact ih hclr hreset
      (h.afterWord (decode_ne_of_ne_encode hwclr.symm) (decode_ne_of_ne_encode hwreset.symm) hw) hrun

/-- R172: the one word of `SEL_CLR`. -/
theorem decode_selClrWord : decode 0x38000000#32 = .ok .selClr := by decide

/-- Settles O49: `SEL_CLR` leaves a selector that holds the best of no candidates, and every word of the run keeps it
holding the best of the candidates so far. -/
theorem selectorKeepsTheLowestPenaltyAndIndex : Obligations.SelectorKeepsTheLowestPenaltyAndIndex := by
  intro s t ws rs hs hclr hreset hrun hne
  have hcleared : execWord 0x38000000#32 s = .next (s.clearBest.setResp 0) := by
    rw [execWord_of_decode decode_selClrWord, exec_of_completes s .selClr hs, effect]
  obtain ⟨u, rs', hw, hrun⟩ := runWords_cons_eq_some hrun
  obtain rfl : s.clearBest.setResp 0 = u := Host.Outcome.next.inj (hcleared.symm.trans hw)
  have hoffers : selCandidates s (0x38000000#32 :: ws) = selCandidates (s.clearBest.setResp 0) ws := by
    rw [selCandidates_cons hw, selCandidates_of_not_selUpd (by simp [decode_selClrWord]), List.nil_append]
  rw [hoffers] at hne ⊢
  have hbest : HoldsBest t (selCandidates (s.clearBest.setResp 0) ws) :=
    (holdsBest_nil rfl).afterRun hclr hreset hrun
  exact ⟨hbest.bestValid hne, hbest.offered (hbest.bestValid hne), hbest.least⟩

end Sys2Proof.Machine

end

section
/-! The system commands of 44_system.md that write `RESP` only (`NOP`, `STAT_RD`, `ID_RD`, `FCMD_RD`): the one word of
each, and the obligations on them. -/

namespace Sys2Proof.Machine

open Sys2Proof.Reference

/-! ### The one word of a command without operands -/

/-- R71 format Z, R75: a row without operands fixes all 32 bits, so no other word with its opcode is legal. -/
theorem illegalWord_of_ne_fixedWord {name : String} {p w : Word} (hrow : ⟨name, p, 0xFFFFFFFF#32⟩ ∈ opcodeMap)
    (hne : w ≠ p) (hop : opOf w = opOf p) : IllegalWord w := by
  have hmask : w &&& 0xFFFFFFFF#32 = w := BitVec.and_allOnes
  exact .inr (.inl ⟨_, hrow, hop.symm, by rwa [hmask]⟩)

/-- R190. -/
theorem decode_nopWord : decode 0x00000000#32 = .ok .nop := by decide

/-- R191. -/
theorem decode_statRdWord : decode 0xF0000000#32 = .ok .statRd := by decide

/-- R192. -/
theorem decode_idRdWord : decode 0xF1000000#32 = .ok .idRd := by decide

/-- R193. -/
theorem decode_fcmdRdWord : decode 0xF2000000#32 = .ok .fcmdRd := by decide

/-! ### What the commands answer -/

theorem exec_nop_running {s : State} (h : s.faulted = false) : exec .nop s = .next (s.setResp 0) :=
  whenRunning_running s _ h

theorem exec_nop_faulted {s : State} (h : s.faulted = true) : exec .nop s = .next s.ignore :=
  whenRunning_faulted s _ h

@[simp] theorem exec_statRd (s : State) : exec .statRd s = .next (s.setResp s.status) := rfl

@[simp] theorem exec_idRd (s : State) : exec .idRd s = .next (s.setResp 0x51520100#32) := rfl

@[simp] theorem exec_fcmdRd (s : State) : exec .fcmdRd s = .next (s.setResp s.faultCmd) := rfl

/-! ### The obligations -/

/-- Settles O15: `NOP` runs only in `RUN`, and any other word with its opcode is illegal. -/
theorem nopOnlyAnswersZero : Obligations.NopOnlyAnswersZero := by
  intro s
  refine ⟨fun hrun => ⟨exec_nop_running hrun, ?_⟩, exec_nop_faulted, fun w hop hne => ?_⟩
  · exact (execWord_of_decode decode_nopWord s).trans (exec_nop_running hrun)
  · have hillegal : IllegalWord w := illegalWord_of_ne_fixedWord (name := "NOP") (by decide) hne hop
    exact (illegalWordsRaiseIllegalCommand s w hillegal).1

/-- Settles O17: the meanings of the three commands do not look at the fault flag, and any other word with one of their
opcodes is illegal. -/
theorem systemReadsExecuteInBothStates : Obligations.SystemReadsExecuteInBothStates := by
  intro s
  refine ⟨exec_statRd s, execWord_of_decode decode_statRdWord s, exec_idRd s, execWord_of_decode decode_idRdWord s,
    exec_fcmdRd s, execWord_of_decode decode_fcmdRdWord s, fun w hop hstat hid hfcmd => ?_⟩
  have hillegal : IllegalWord w := by
    rcases hop with hop | hop | hop
    · exact illegalWord_of_ne_fixedWord (name := "STAT_RD") (by decide) hstat hop
    · exact illegalWord_of_ne_fixedWord (name := "ID_RD") (by decide) hid hop
    · exact illegalWord_of_ne_fixedWord (name := "FCMD_RD") (by decide) hfcmd hop
  exact illegalWordsRaiseIllegalCommand s w hillegal

end Sys2Proof.Machine

end

section
/-! Encoding (30_encoding.md): the decoder reads back what the encoder wrote, a word matches a row of R73
exactly when it decodes to a command of that row, and the assembler of R78 inverts mnemonic and operands. -/

namespace Sys2Proof

/-! ### Each format reads back the operands put into its fields -/

@[simp] theorem formZ_wordOf (op : Byte) (i : Instr) : formZ (wordOf op 0#8 0#8 0#8) i = .ok i :=
  formZ_eq_ok_iff.2 (by simp)

@[simp] theorem formB_wordOf (op f0 : Byte) (mk : Byte → Instr) : formB (wordOf op 0#8 0#8 f0) mk = .ok (mk f0) :=
  formB_eq_ok_iff.2 (by simp)

@[simp] theorem formAB_wordOf (op f1 f0 : Byte) (mk : Byte → Byte → Instr) :
    formAB (wordOf op 0#8 f1 f0) mk = .ok (mk f1 f0) := formAB_eq_ok_iff.2 (by simp)

@[simp] theorem formGR_wordOf (op f2 f1 : Byte) (mk : Byte → Byte → Instr) :
    formGR (wordOf op f2 f1 0#8) mk = .ok (mk f2 f1) := formGR_eq_ok_iff.2 (by simp)

/-- R74: an operand of `n` bits stands in the low bits of its byte. -/
theorem extractLsb'_setWidth_low {n : Nat} (hn : n ≤ 8) (x : BitVec n) :
    (x.setWidth 8 : Byte).extractLsb' 0 n = x := by
  ext j hj
  simp [show j < 8 by omega, BitVec.getLsbD_eq_getElem hj]

/-- R74: the high bits of an operand's byte are zero. -/
@[simp] theorem extractLsb'_setWidth_high {n : Nat} (x : BitVec n) :
    (x.setWidth 8 : Byte).extractLsb' n (8 - n) = 0 := by
  ext j hj
  simp

@[simp] theorem formBLow_wordOf {n : Nat} (hn : n ≤ 8) (op : Byte) (x : BitVec n) (mk : BitVec n → Instr) :
    formBLow n (wordOf op 0#8 0#8 (x.setWidth 8)) mk = .ok (mk x) :=
  formBLow_eq_ok_iff.2 (by simp [extractLsb'_setWidth_low hn])

@[simp] theorem formG_wordOf (op f2 f1 : Byte) (v : BitVec 1) (mk : Byte → Byte → BitVec 1 → Instr) :
    formG (wordOf op f2 f1 (v.setWidth 8)) mk = .ok (mk f2 f1 v) :=
  formG_eq_ok_iff.2 (by simp [extractLsb'_setWidth_low, extractLsb'_setWidth_high v])

/-- R70 to R74: decoding undoes encoding: the opcode selects the command's own format, which reads its operands back. -/
theorem decode_encode (i : Instr) : decode (encode i) = .ok i := by
  cases i <;> simp [decode, encode]

/-- Settles O1: each format reads back the operands put into its fields. -/
theorem decodingTheEncodedCommandGivesItBack : Obligations.DecodingTheEncodedCommandGivesItBack := decode_encode

/-- Settles O2: each format drops only bits that it has tested to be zero. -/
theorem encodingTheDecodedWordGivesItBack : Obligations.EncodingTheDecodedWordGivesItBack :=
  fun _ _ => encode_eq_of_decode

/-- Settles O4: each word is the word of its command, written out. -/
theorem wordsTheSpecWritesOutDecode : Obligations.WordsTheSpecWritesOutDecode :=
  ⟨decode_encode (.rsCfg 16 10), decode_encode (.rsWr 3 0x78), decode_encode (.gridWr 2 0 1), decode_encode (.bchFmt 5),
    decode_encode .rsEnc, decode_encode (.gfMul 0x53 0xCA), decode_encode (.gfLog 0x1D), decode_encode (.bchVer 7),
    decode_encode (.selUpd 1), decode_encode .fcmdRd⟩

open Machine

/-! ### The rows of the opcode map -/

/-- R73 by the fields of R70: a word matches a row when each of its bytes does. -/
theorem matches_wordOf_iff (row : OpcodeRow) (op f2 f1 f0 : Byte) :
    row.matches (wordOf op f2 f1 f0) = true ↔ op &&& opOf row.mask = opOf row.pattern ∧
      f2 &&& f2Of row.mask = f2Of row.pattern ∧ f1 &&& f1Of row.mask = f1Of row.pattern ∧
      f0 &&& f0Of row.mask = f0Of row.pattern := by
  have hand : ∀ v w : Word, opOf (v &&& w) = opOf v &&& opOf w ∧ f2Of (v &&& w) = f2Of v &&& f2Of w ∧
      f1Of (v &&& w) = f1Of v &&& f1Of w ∧ f0Of (v &&& w) = f0Of v &&& f0Of w := by
    simp [opOf, f2Of, f1Of, f0Of, BitVec.extractLsb'_and]
  obtain ⟨hop, h2, h1, h0⟩ := hand (wordOf op f2 f1 f0) row.mask
  simp only [opOf_wordOf, f2Of_wordOf, f1Of_wordOf, f0Of_wordOf] at hop h2 h1 h0
  rw [OpcodeRow.matches, beq_iff_eq, ← hop, ← h2, ← h1, ← h0]
  constructor
  · rintro h
    simp only [h, and_self]
  · rintro ⟨hop, h2, h1, h0⟩
    rw [← wordOf_fields (wordOf op f2 f1 f0 &&& row.mask), hop, h2, h1, h0, wordOf_fields]

/-- R74: a mask on the bits from `n` up tests that they are zero. -/
theorem and_highMask_eq_zero_iff {n : Nat} {mask : Byte} (hmask : ∀ j < 8, mask.getLsbD j = decide (n ≤ j)) (b : Byte) :
    b &&& mask = 0#8 ↔ b.extractLsb' n (8 - n) = 0 := by
  constructor <;> intro h <;> refine BitVec.eq_of_getLsbD_eq fun j hj => ?_
  · have hbit := congrArg (fun v => v.getLsbD (n + j)) h
    simpa [hmask (n + j) (by omega)] using fun _ => hbit
  · by_cases hn : n ≤ j
    · have hbit := congrArg (fun v => v.getLsbD (j - n)) h
      simpa [show j - n < 8 - n by omega, show n + (j - n) = j by omega, hmask j hj, hn] using hbit
    · simp [hmask j hj, hn]

/-- R72: a word that matches a row decodes to a command of the row's mnemonic: the opcode bits select the row's format,
whose "must be 0" bits the mask tests. -/
theorem exists_decode_of_matches {row : OpcodeRow} (hrow : row ∈ opcodeMap) {w : Word} (h : row.matches w = true) :
    ∃ i, decode w = .ok i ∧ mnemonicOf i = row.mnemonic := by
  obtain ⟨op, f2, f1, f0, rfl⟩ : ∃ op f2 f1 f0, wordOf op f2 f1 f0 = w := ⟨_, _, _, _, wordOf_fields w⟩
  rw [matches_wordOf_iff] at h
  have hall : ∀ b : Byte, b &&& 255#8 = b := fun _ => BitVec.and_allOnes
  simp only [opcodeMap, List.cons_append, List.nil_append, List.mem_cons, List.not_mem_nil, or_false] at hrow
  rcases hrow with rfl | rfl | rfl | rfl | rfl | rfl | rfl | rfl | rfl | rfl | rfl | rfl | rfl | rfl | rfl | rfl | rfl |
    rfl | rfl | rfl | rfl | rfl | rfl | rfl | rfl | rfl <;>
    simp [opOf, f2Of, f1Of, f0Of, hall, and_highMask_eq_zero_iff (n := 5) (mask := 224#8) (by decide),
      and_highMask_eq_zero_iff (n := 6) (mask := 192#8) (by decide),
      and_highMask_eq_zero_iff (n := 3) (mask := 248#8) (by decide),
      and_highMask_eq_zero_iff (n := 1) (mask := 254#8) (by decide)] at h <;>
    simp [decode, mnemonicOf, h, formBLow, formG]

/-- R73: the rows have distinct mnemonics. -/
theorem opcodeMap_mnemonic_injective :
    ∀ row ∈ opcodeMap, ∀ row' ∈ opcodeMap, row.mnemonic = row'.mnemonic → row = row' := by decide

/-- Settles O3: a word that matches a row decodes by that row's format; one that decodes matches the one row of its
command's mnemonic. -/
theorem decoderFollowsTheOpcodeMap : Obligations.DecoderFollowsTheOpcodeMap := by
  intro w row hrow
  constructor
  · exact exists_decode_of_matches hrow
  · rintro ⟨i, hi, hname⟩
    obtain ⟨row', hrow', hname', hmatch⟩ := exists_row_of_decode hi
    rwa [opcodeMap_mnemonic_injective row hrow row' hrow' (hname.symm.trans hname'.symm)]

end Sys2Proof

namespace Sys2Proof.Machine

/-! ### The assembler -/

/-- R78: an operand that does not fit its field is rejected. -/
theorem fit_eq_some_iff {n v : Nat} {x : BitVec n} : fit n v = some x ↔ v = x.toNat := by
  unfold fit
  split
  next h => simp [← BitVec.toNat_inj, Nat.mod_eq_of_lt h]
  next h => simpa using fun hx : v = x.toNat => h (hx ▸ x.isLt)

@[simp] theorem fit_toNat {n : Nat} (x : BitVec n) : fit n x.toNat = some x := fit_eq_some_iff.2 rfl

theorem noOperand_eq_some_iff {i j : Instr} {ops : List Nat} : noOperand i ops = some j ↔ ops = [] ∧ i = j := by
  cases ops <;> simp [noOperand]

theorem oneOperand_eq_some_iff {n : Nat} {mk : BitVec n → Instr} {ops : List Nat} {j : Instr} :
    oneOperand n mk ops = some j ↔ ∃ x, ops = [x.toNat] ∧ mk x = j := by
  match ops with
  | [] => simp [oneOperand]
  | [a] => simp [oneOperand, fit_eq_some_iff]
  | _ :: _ :: _ => simp [oneOperand]

theorem twoOperands_eq_some_iff {mk : Byte → Byte → Instr} {ops : List Nat} {j : Instr} :
    twoOperands mk ops = some j ↔ ∃ x y, ops = [x.toNat, y.toNat] ∧ mk x y = j := by
  match ops with
  | [] => simp [twoOperands]
  | [_] => simp [twoOperands]
  | [a, b] => simp [twoOperands, Option.bind_eq_some_iff, fit_eq_some_iff, and_assoc]
  | _ :: _ :: _ :: _ => simp [twoOperands]

/-- R78: `GRID_WR` is the one command of three operands. -/
theorem assemble_gridWr {ops : List Nat} {j : Instr} (h : assemble "GRID_WR" ops = some j) :
    ∃ x y z, ops = [x.toNat, y.toNat, z.toNat] ∧ Instr.gridWr x y z = j := by
  match ops with
  | [] => simp [assemble] at h
  | [_] => simp [assemble] at h
  | [_, _] => simp [assemble] at h
  | [a, b, c] => simpa [assemble, Option.bind_eq_some_iff, fit_eq_some_iff, and_assoc] using h
  | _ :: _ :: _ :: _ :: _ => simp [assemble] at h

/-- R78: whichever row's mnemonic was written, the row's operand form fixes how many operands there are and that each
fits its field. -/
theorem assemble_eq_some {m : String} {ops : List Nat} {i : Instr} (h : assemble m ops = some i) :
    mnemonicOf i = m ∧ operandsOf i = ops := by
  by_cases hm : m = "GRID_WR"
  · subst hm
    obtain ⟨x, y, z, rfl, rfl⟩ := assemble_gridWr h
    exact ⟨rfl, rfl⟩
  unfold assemble at h
  rw [if_neg hm] at h
  clear hm
  iterate 25
    rcases ite_eq_iff.1 h with ⟨rfl, h⟩ | ⟨-, h⟩
    · grind [noOperand_eq_some_iff, oneOperand_eq_some_iff, twoOperands_eq_some_iff, mnemonicOf, operandsOf]
  cases h

/-- Settles O5: an operand that comes from a field fits it, and what the assembler gives is read off its
operand forms. -/
theorem assemblerNeverTruncates : Obligations.AssemblerNeverTruncates := by
  refine ⟨fun i => ?_, fun m ops i h => assemble_eq_some h⟩
  cases i <;> simp [assemble, mnemonicOf, operandsOf, noOperand, oneOperand, twoOperands]
end Sys2Proof.Machine

end

section
/-! One step, one word and one command (60_exceptions.md, 10_state.md): what a word can do in either state,
which fault a failed check raises, and which registers and flags a command can change. -/

namespace Sys2Proof.Machine

open Sys2Proof.Reference

/-! ### The step (R58, R60) -/

theorem step_cons {s : State} {e : PortEvent} {rest : List PortEvent} (h : s.port = e :: rest) :
    step s = onEvent e (s.withPort rest) := by
  simp [step, h]

/-- Settles O7: a step is the oldest event, and an event is the meaning of its word or the reset. -/
theorem stepRunsTheOldestPortEvent : Obligations.StepRunsTheOldestPortEvent := by
  refine ⟨fun s hidle => ?_, fun s w rest i hport hw => ?_, fun s w rest e hport hw => ?_, fun s rest hport => ?_,
    fun s w => ?_⟩
  · simp [step, hidle]
  · rw [step_cons hport]
    exact execWord_of_decode hw _
  · have hword : step s = execWord w (s.withPort rest) := step_cons hport
    rw [hword, execWord_of_not_decode (by simp [hw]), illegalWord_next]
    rfl
  · rw [step_cons hport]
    rfl
  · have hword : tableWord 32 w = BitVec.ofNat 32 w := BitVec.eq_of_toNat_eq (by simp [tableWord])
    have hstep : step (s.withFetchWord 32 w) = execWord (tableWord 32 w) s :=
      step_cons (e := .command (tableWord 32 w)) (rest := s.port) rfl
    rw [hstep, hword]

/-! ### What one word can do -/

/-- R203: in `FAULTED` every command but the four of R195 is ignored. -/
theorem exec_faulted {s : State} (h : s.faulted = true) {i : Instr} (hstat : i ≠ .statRd) (hid : i ≠ .idRd)
    (hfcmd : i ≠ .fcmdRd) (hreset : i ≠ .sreset) : exec i s = .next s.ignore := by
  cases i with
  | statRd => exact absurd rfl hstat
  | idRd => exact absurd rfl hid
  | fcmdRd => exact absurd rfl hfcmd
  | sreset => exact absurd rfl hreset
  | _ => exact whenRunning_faulted s _ h

/-- R203: and so is every word but theirs. -/
theorem execWord_faulted {s : State} (h : s.faulted = true) {w : Word} (hstat : w ≠ encode .statRd)
    (hid : w ≠ encode .idRd) (hfcmd : w ≠ encode .fcmdRd) (hreset : w ≠ encode .sreset) :
    execWord w s = .next s.ignore := by
  cases hw : decode w with
  | error e => rw [execWord_of_not_decode (by simp [hw]), illegalWord_next, if_pos h]
  | ok i =>
    have hne : ∀ j, w ≠ encode j → i ≠ j := fun j hj hij => decode_ne_of_ne_encode hj (hij ▸ hw)
    rw [execWord_of_decode hw, exec_faulted h (hne _ hstat) (hne _ hid) (hne _ hfcmd) (hne _ hreset)]

/-- Settles O8: the four words of R195 run as their commands, every other one is ignored. -/
theorem faultedStateExecutesOnlyFourWords : Obligations.FaultedStateExecutesOnlyFourWords := by
  intro s w h
  split_ifs with hstat hid hfcmd hreset
  · exact hstat ▸ execWord_of_decode decode_statRdWord s
  · exact hid ▸ execWord_of_decode decode_idRdWord s
  · exact hfcmd ▸ execWord_of_decode decode_fcmdRdWord s
  · exact hreset ▸ execWord_of_decode decode_sresetWord s
  · exact execWord_faulted h hstat hid hfcmd hreset

/-- R203, R205: in `FAULTED` a word other than `SRESET` writes `RESP` only. -/
theorem execWord_faulted_frame {s : State} (h : s.faulted = true) {w : Word} (hw : w ≠ 0xFF000000#32) :
    ∃ v, execWord w s = .next (s.setResp v) := by
  rw [faultedStateExecutesOnlyFourWords s w h]
  split_ifs
  exacts [⟨_, rfl⟩, ⟨_, rfl⟩, ⟨_, rfl⟩, ⟨_, rfl⟩]

theorem runWords_cons {s t : State} {w : Word} (h : execWord w s = .next t) (ws : List Word) :
    runWords s (w :: ws) = (runWords t ws).map (fun r => (t.resp :: r.1, r.2)) := by
  simp [runWords, h]

/-- Settles O9: by induction on the words, each of which writes `RESP` only. -/
theorem faultIsKeptUntilReset : Obligations.FaultIsKeptUntilReset := by
  intro s ws h hreset
  induction ws generalizing s with
  | nil => exact ⟨[], rfl⟩
  | cons w ws ih =>
    obtain ⟨hw, hreset⟩ := List.ne_and_not_mem_of_not_mem_cons hreset
    obtain ⟨v, hv⟩ := execWord_faulted_frame h hw.symm
    obtain ⟨rs, hrun⟩ := ih (s.setResp v) h hreset
    refine ⟨v :: rs, ?_⟩
    rw [runWords_cons hv, hrun]
    cases rs <;> rfl

/-- R72, said of words: a word that answers a next state was ignored, or took a fault, or is the word of a command that
completed. -/
theorem execWord_cases {s t : State} {w : Word} (h : execWord w s = .next t) :
    (s.faulted = true ∧ t = s.ignore) ∨ (s.faulted = false ∧ ∃ c, t = s.raise c w) ∨
      ∃ i, decode w = .ok i ∧ completes s i ∧ t = effect s i := by
  cases hw : decode w with
  | error e =>
    rw [execWord_of_not_decode (by simp [hw]), illegalWord_next] at h
    obtain rfl := Host.Outcome.next.inj h
    cases hs : s.faulted
    · exact .inr (.inl ⟨rfl, .illegalCmd, rfl⟩)
    · exact .inl ⟨rfl, rfl⟩
  | ok i =>
    rw [execWord_of_decode hw] at h
    rcases exec_cases h with hignored | ⟨hs, c, rfl⟩ | ⟨hc, rfl⟩
    · exact .inl hignored
    · exact .inr (.inl ⟨hs, c, encode_eq_of_decode hw ▸ rfl⟩)
    · exact .inr (.inr ⟨i, rfl, hc, rfl⟩)

/-- R72 step 5: a command that completes in `RUN` leaves the block in `RUN`. -/
theorem effect_running {s : State} (h : s.faulted = false) (i : Instr) : (effect s i).faulted = false := by
  cases i with
  | sreset => rfl
  | selUpd m => rw [effect_selUpd_faulted, h]
  | _ => exact h

/-- Settles O10: a word that is ignored or completes leaves a running block running. -/
theorem faultsArePrecise : Obligations.FaultsArePrecise := by
  intro s t w hs h ht
  rcases execWord_cases h with ⟨hs', -⟩ | ⟨-, c, rfl⟩ | ⟨i, -, -, rfl⟩
  · simp [hs] at hs'
  · exact ⟨c, rfl⟩
  · simp [effect_running hs] at ht

/-! ### Which fault a command raises -/

/-- R201: a command that takes a fault does so at one of its own checks. -/
theorem exec_raises {s t : State} {i : Instr} (hs : s.faulted = false) (hc : ¬ completes s i) (h : exec i s = .next t) :
    ∃ c, c.code ∈ causesOf i ∧ t = s.raise c (encode i) := by
  cases i <;>
    simp only [exec, completes, execNop, execGfMul, execGfDiv, execGfExp, execGfLog, execRsCfg, execRsWr, execRsRd,
      execRsEnc, execRsSynd, execRsRdsyn, execRsRdgen, execBchFmt, execBchVer, execGridCfg, execGridWr, execGridRd,
      execPenScore, execPenRd, execSelClr, execSelUpd, execSelRd, execStatRd, execIdRd, execFcmdRd, execSreset,
      needElements_next, require_next, whenRunning_running _ _ hs, ArrayName.size] at h hc
  all_goals repeat (rcases h with ⟨-, rfl⟩ | ⟨_, h⟩; · exact ⟨_, by simp [causesOf, Cause.code], rfl⟩)
  all_goals simp_all

/-- Settles O11: a command that faults did not complete, so it failed a check of its own. -/
theorem commandsRaiseOnlyTheirCauses : Obligations.CommandsRaiseOnlyTheirCauses := by
  intro s t i hs h ht
  by_cases hc : completes s i
  · obtain rfl := Host.Outcome.next.inj ((exec_of_completes s i hc).symm.trans h)
    simp [effect_running hs] at ht
  · obtain ⟨c, hcode, rfl⟩ := exec_raises hs hc h
    exact hcode

/-! ### The range checks as arithmetic (R71, R74) -/

theorem rsCfgOk_iff {k r : Byte} : rsCfgOk k r = true ↔ 1 ≤ r.toNat ∧ r.toNat ≤ 30 ∧ k.toNat + r.toNat ≤ 255 := by
  simp only [rsCfgOk, Bool.and_eq_true, decide_eq_true_eq, and_assoc]
  rfl

theorem cwIndexOk_iff {s : State} {idx : Byte} : s.cwIndexOk idx = true ↔ idx.toNat < s.rsK.toNat + s.rsR.toNat := by
  simp only [State.cwIndexOk, decide_eq_true_eq]
  rfl

theorem synIndexOk_iff {s : State} {j : Byte} : s.synIndexOk j = true ↔ j.toNat < s.rsR.toNat := by
  simp [State.synIndexOk]

theorem genIndexOk_iff {s : State} {i : Byte} : s.genIndexOk i = true ↔ i.toNat ≤ s.rsR.toNat := by
  simp [State.genIndexOk]

theorem gridCfgOk_iff {n : Byte} : gridCfgOk n = true ↔ 1 ≤ n.toNat ∧ n.toNat ≤ 177 := by
  simp only [gridCfgOk, Bool.and_eq_true, decide_eq_true_eq]
  rfl

theorem gridIndexOk_iff {s : State} {row col : Byte} :
    s.gridIndexOk row col = true ↔ row.toNat < s.gridN.toNat ∧ col.toNat < s.gridN.toNat := by
  simp [State.gridIndexOk]

/-! ### Checks that fail -/

section
variable {s : State} (hs : s.faulted = false) {p q r : Prop} [Decidable p] [Decidable q] [Decidable r]
  {c d e : Cause} {i : Instr} {k : Outcome}
include hs

/-- R202: the first check fails. -/
theorem first_check_fails (hp : ¬ p) : whenRunning s (require p c i s k) = .next (s.raise c (encode i)) := by
  simp [hs, hp]

/-- R202: the first check passes and the second fails. -/
theorem second_check_fails (hp : p) (hq : ¬ q) :
    whenRunning s (require p c i s (require q d i s k)) = .next (s.raise d (encode i)) := by
  simp [hs, hp, hq]

/-- R202: two checks pass and the third fails. -/
theorem third_check_fails (hp : p) (hq : q) (hr : ¬ r) :
    whenRunning s (require p c i s (require q d i s (require r e i s k))) = .next (s.raise e (encode i)) := by
  simp [hs, hp, hq, hr]

end

/-- Settles O12: the configuration is the first check of each of the nine commands. -/
theorem unconfiguredUnitsFaultFirst : Obligations.UnconfiguredUnitsFaultFirst := by
  intro s hs
  constructor
  · intro hrs i hi
    have hfail : ¬ s.rsValid = true := by simp [hrs]
    rcases hi with ⟨idx, byte, rfl⟩ | ⟨idx, rfl⟩ | rfl | rfl | ⟨j, rfl⟩ | ⟨j, rfl⟩ <;>
      exact first_check_fails hs hfail
  · intro hgrid i hi
    have hfail : ¬ s.gridValid = true := by simp [hgrid]
    rcases hi with ⟨row, col, v, rfl⟩ | ⟨row, col, rfl⟩ | rfl <;> exact first_check_fails hs hfail

/-- Settles O13: the order of the checks in each of the three commands. -/
theorem staleResultsFault : Obligations.StaleResultsFault := by
  intro s hs
  refine ⟨fun hrs hsyn j => second_check_fails hs hrs (by simp [hsyn]),
    fun hpen sel hsel => second_check_fails hs (by simpa [penRdOk] using hsel) (by simp [hpen]),
    fun hpen m => first_check_fails hs (by simp [hpen]),
    fun sel hsel => first_check_fails hs (by simpa [penRdOk] using hsel)⟩

/-- Settles O14: the range check of each command, after the checks that pass. -/
theorem operandsOutOfRangeFault : Obligations.OperandsOutOfRangeFault := by
  intro s hs
  refine ⟨fun a => first_check_fails hs (by simp), first_check_fails hs (by simp),
    fun k r hkr => first_check_fails hs ?_,
    fun hrs idx byte hidx => second_check_fails hs hrs ?_, fun hrs idx hidx => second_check_fails hs hrs ?_,
    fun hrs hsyn j hj => third_check_fails hs hrs hsyn ?_, fun hrs i hi => second_check_fails hs hrs ?_,
    fun n hn => first_check_fails hs ?_, fun hgrid row col v hrc => second_check_fails hs hgrid ?_,
    fun hgrid row col hrc => second_check_fails hs hgrid ?_⟩
  · rw [rsCfgOk_iff]; omega
  · rw [cwIndexOk_iff]; omega
  · rw [cwIndexOk_iff]; omega
  · rw [synIndexOk_iff]; omega
  · rw [genIndexOk_iff]; omega
  · rw [gridCfgOk_iff]; omega
  · rw [gridIndexOk_iff]; omega
  · rw [gridIndexOk_iff]; omega

/-! ### The flags -/

@[simp] theorem getElem_flagAt (f : Bool) (b j : Nat) (hj : j < 32) : (flagAt f b)[j] = (decide (j = b) && f) := by
  rw [← BitVec.getLsbD_eq_getElem, getLsbD_flagAt]
  simp [hj]

/-- R25: `STATUS` from bit 8 up is `FAULT_CODE`. -/
theorem getLsbD_status_high (s : State) {j : Nat} (h : 8 ≤ j) : s.status.getLsbD j = s.faultCode.getLsbD (j - 8) := by
  have hflag : ∀ bit < 8, j ≠ bit := by omega
  by_cases hj : j < 32
  · simp [State.status, zext, hflag, hj, show ¬ j < 8 by omega]
  · rw [BitVec.getLsbD_of_ge _ _ (by omega), BitVec.getLsbD_of_ge _ _ (by omega)]

/-- Settles O16: the bits of `STATUS`, one by one below 8 and by fields above. -/
theorem statusIsAssembledFromTheFlags : Obligations.StatusIsAssembledFromTheFlags := by
  intro s
  refine ⟨s.status, exec_statRd s, ?_, ?_, ?_, ?_, ?_, ?_, ?_, ?_, ?_, ?_⟩
  case refine_9 =>
    refine BitVec.eq_of_getLsbD_eq fun j hj => ?_
    rw [BitVec.getLsbD_extractLsb', getLsbD_status_high s (by omega)]
    simp [hj]
  case refine_10 =>
    refine BitVec.eq_of_getLsbD_eq fun j hj => ?_
    rw [BitVec.getLsbD_extractLsb', getLsbD_status_high s (by omega), BitVec.getLsbD_of_ge _ _ (by omega)]
    simp
  all_goals simp [State.status, zext]

/-- Settles O50: an ignored or faulting command changes no flag but `FAULTED`; of the effects, those of the
named commands alone write a flag. -/
theorem flagsChangeOnlyByTheirCommands : Obligations.FlagsChangeOnlyByTheirCommands := by
  intro s t i h
  rcases exec_cases h with ⟨-, rfl⟩ | ⟨-, c, rfl⟩ | ⟨-, rfl⟩
  · simp
  · simp
  · cases i with
    | selUpd m =>
      rw [effect]
      split <;> simp
    | sreset => simp [effect, hardReset_eq]
    | _ => simp [effect]

/-- Settles O51: the same for the registers: fault entry writes the fault registers, and each effect only what its rule
names. -/
theorem registersChangeOnlyByTheirCommands : Obligations.RegistersChangeOnlyByTheirCommands := by
  intro s t i h
  rcases exec_cases h with ⟨-, rfl⟩ | ⟨hs, c, rfl⟩ | ⟨-, rfl⟩
  · simp
  · simp [hs]
  · cases i with
    | selUpd m =>
      rw [effect]
      split <;> simp
    | sreset => simp [effect]
    | _ => simp [effect]

end Sys2Proof.Machine

end

section
/-! Products of polynomials over GF(2) (R100, R140): two numbers are congruent modulo `g` when they differ by a
carry-less multiple of it. The reduction of R104 and the remainder of R140 are congruent to what they reduce; the
obligations on the GF(256) commands and on the words of the BCH unit. -/

namespace Sys2Proof.Machine

open Sys2Proof.Reference

/-! ### The carry-less product -/

/-- The product is linear in its first factor. -/
theorem carrylessMul_xor (a b g : Nat) : carrylessMul (a ^^^ b) g = carrylessMul a g ^^^ carrylessMul b g := by
  suffices h : ∀ (l : List Nat) (x y : Nat),
      l.foldl (fun acc i => if g.testBit i then acc ^^^ ((a ^^^ b) <<< i) else acc) (x ^^^ y) =
        l.foldl (fun acc i => if g.testBit i then acc ^^^ (a <<< i) else acc) x ^^^
          l.foldl (fun acc i => if g.testBit i then acc ^^^ (b <<< i) else acc) y from h _ 0 0
  intro l
  induction l with
  | nil => intro x y; rfl
  | cons i l ih =>
    intro x y
    simp only [List.foldl_cons, ← ih]
    congr 1
    split
    · rw [Nat.shiftLeft_xor_distrib]
      ac_rfl
    · rfl

/-- A shift of the first factor shifts the product. -/
theorem carrylessMul_shiftLeft (a n g : Nat) : carrylessMul (a <<< n) g = carrylessMul a g <<< n := by
  suffices h : ∀ (l : List Nat) (x : Nat),
      l.foldl (fun acc i => if g.testBit i then acc ^^^ ((a <<< n) <<< i) else acc) (x <<< n) =
        l.foldl (fun acc i => if g.testBit i then acc ^^^ (a <<< i) else acc) x <<< n by
    simpa [carrylessMul] using h (List.range 16) 0
  intro l
  induction l with
  | nil => intro x; rfl
  | cons i l ih =>
    intro x
    simp only [List.foldl_cons, ← ih]
    congr 1
    split
    · rw [Nat.shiftLeft_xor_distrib, ← Nat.shiftLeft_add, ← Nat.shiftLeft_add, Nat.add_comm]
    · rfl

@[simp] theorem carrylessMul_zero (g : Nat) : carrylessMul 0 g = 0 := by
  have h := carrylessMul_xor 0 0 g
  rwa [Nat.xor_self, Nat.xor_self] at h

/-! ### Congruence -/

/-- `x` and `y` differ by a carry-less multiple of `g` (R100, R140). -/
def CongrMod (g x y : Nat) : Prop := ∃ q, x = carrylessMul q g ^^^ y

namespace CongrMod

variable {g : Nat}

theorem refl (x : Nat) : CongrMod g x x := ⟨0, by simp⟩

theorem xor {x y x' y' : Nat} (h : CongrMod g x y) (h' : CongrMod g x' y') : CongrMod g (x ^^^ x') (y ^^^ y') := by
  obtain ⟨q, rfl⟩ := h
  obtain ⟨q', rfl⟩ := h'
  exact ⟨q ^^^ q', by rw [carrylessMul_xor]; ac_rfl⟩

theorem trans {x y z : Nat} (h : CongrMod g x y) (h' : CongrMod g y z) : CongrMod g x z := by
  obtain ⟨q, rfl⟩ := h
  obtain ⟨q', rfl⟩ := h'
  exact ⟨q ^^^ q', by rw [carrylessMul_xor, Nat.xor_assoc]⟩

theorem shiftLeft {x y : Nat} (h : CongrMod g x y) (n : Nat) : CongrMod g (x <<< n) (y <<< n) := by
  obtain ⟨q, rfl⟩ := h
  exact ⟨q <<< n, by rw [carrylessMul_shiftLeft, Nat.shiftLeft_xor_distrib]⟩

/-- Subtracting a shifted `g` keeps the class. -/
theorem xor_shiftLeft (hg : carrylessMul 1 g = g) (x n : Nat) : CongrMod g x (x ^^^ (g <<< n)) := by
  refine ⟨1 <<< n, ?_⟩
  rw [carrylessMul_shiftLeft, hg, Nat.xor_comm x, ← Nat.xor_assoc, Nat.xor_self, Nat.zero_xor]

end CongrMod

/-! ### GF(256) -/

/-- R101: the step from one power of `ALPHA` to the next multiplies by x and reduces. -/
theorem congrMod_timesAlpha (e : Byte) : CongrMod 0x11D (e.toNat <<< 1) (timesAlpha e).toNat := by
  have hreduced : (timesAlpha e).toNat = e.toNat <<< 1 ∨ (timesAlpha e).toNat = e.toNat <<< 1 ^^^ (0x11D <<< 0) := by
    revert e
    decide +kernel
  rcases hreduced with h | h <;> rw [h]
  · exact CongrMod.refl _
  · exact CongrMod.xor_shiftLeft (by decide) _ 0

/-- R104: multiplying by a power of `ALPHA` is shifting and reducing. -/
theorem congrMod_shiftLeft_gfMul (a : Byte) (i : Nat) :
    CongrMod 0x11D (a.toNat <<< i) (gfMul a (alphaPow i)).toNat := by
  induction i with
  | zero => rw [gfMul_comm, alphaPow, gfMul_one_left]; exact CongrMod.refl _
  | succ i ih =>
    rw [gfMul_comm, gfMul_alphaPow_succ, gfMul_comm, Nat.shiftLeft_add]
    exact (ih.shiftLeft 1).trans (congrMod_timesAlpha _)

/-- R100: an element is the sum of the powers of `ALPHA` at its bits. -/
theorem sum_alphaPow_bits : ∀ b : Byte,
    (List.range 16).foldl (fun acc i => if b.toNat.testBit i then acc ^^^ alphaPow i else acc) 0#8 = b := by
  decide +kernel

/-- R100, R104: the product of the field is the product of the polynomials, reduced. -/
theorem congrMod_gfMul (a b : Byte) : CongrMod 0x11D (carrylessMul a.toNat b.toNat) (gfMul a b).toNat := by
  suffices h : ∀ (l : List Nat) (x : Nat) (c : Byte), CongrMod 0x11D x (gfMul a c).toNat →
      CongrMod 0x11D (l.foldl (fun acc i => if b.toNat.testBit i then acc ^^^ (a.toNat <<< i) else acc) x)
        (gfMul a (l.foldl (fun acc i => if b.toNat.testBit i then acc ^^^ alphaPow i else acc) c)).toNat by
    have hsum := h (List.range 16) 0 0#8 (by rw [gfMul_zero_right]; exact CongrMod.refl _)
    rwa [sum_alphaPow_bits] at hsum
  intro l
  induction l with
  | nil => exact fun x c hx => hx
  | cons i l ih =>
    intro x c hx
    refine ih _ _ ?_
    dsimp only
    split
    · rw [gfMul_xor, BitVec.toNat_xor]
      exact hx.xor (congrMod_shiftLeft_gfMul a i)
    · exact hx

theorem zext_eq_ofNat (b : Byte) : zext b = BitVec.ofNat 32 b.toNat := by
  apply BitVec.eq_of_toNat_eq
  simp [zext]

/-- Settles O19: the product, bit by bit of `b`, is congruent to the field's, which is a byte. -/
theorem gfMulIsTheProductModuloTheFieldPolynomial : Obligations.GfMulIsTheProductModuloTheFieldPolynomial := by
  intro a b s hs
  obtain ⟨q, hq⟩ := congrMod_gfMul a b
  refine ⟨(gfMul a b).toNat, q, (gfMul a b).isLt, ?_, hq⟩
  rw [exec_of_completes s (.gfMul a b) hs, effect, zext_eq_ofNat]
  rfl

/-- R105, R106: a factor other than zero can be cancelled. -/
theorem gfMul_right_cancel {a b c : Byte} (hb : b ≠ 0#8) (h : gfMul a b = gfMul c b) : a = c := by
  have hzero : gfMul b (a ^^^ c) = 0#8 := by
    rw [gfMul_xor, gfMul_comm b a, gfMul_comm b c, h, BitVec.xor_self]
  exact BitVec.xor_eq_zero_iff.1 ((eq_zero_or_eq_zero_of_gfMul hzero).resolve_left hb)

/-- Settles O20: the quotient times the divisor is the dividend, and a divisor other than zero cancels. -/
theorem gfDivUndoesMultiplication : Obligations.GfDivUndoesMultiplication := by
  intro a b s hs hb
  have hcancel := gfMul_gfDiv_cancel a hb
  exact ⟨gfDiv a b, exec_of_completes s (.gfDiv a b) ⟨hs, hb⟩, hcancel,
    fun q' hq' => gfMul_right_cancel hb (hq'.trans hcancel.symm)⟩

/-- R101: the table, its period entry included. -/
theorem expTable_eq_alphaPow {n : Nat} (h : n ≤ 255) : expTable n = alphaPow n := by
  obtain rfl | h := h.eq_or_lt
  · rw [expTable_period]
    exact alphaPow_eq_of_mod_eq (m := 0) rfl
  · rw [← expTable_mod, Nat.mod_eq_of_lt h]

/-- Settles O21: the table holds the powers of `ALPHA`. -/
theorem gfExpAnswersThePowerOfAlpha : Obligations.GfExpAnswersThePowerOfAlpha := by
  intro i s hs
  rw [exec_of_completes s (.gfExp i) hs, effect, expTable_eq_alphaPow (Nat.lt_succ_iff.1 i.isLt)]
  rfl

/-- Settles O22: the table's exponent, and the logarithm of a power of `ALPHA` is its exponent. -/
theorem gfLogAnswersTheExponent : Obligations.GfLogAnswersTheExponent := by
  intro a s hs ha
  refine ⟨logTable a, logTable_le a, exec_of_completes s (.gfLog a) ⟨hs, ha⟩, alphaPow_logTable ha, ?_⟩
  rintro m hm rfl
  rw [logTable_alphaPow, Nat.mod_eq_of_lt (by omega)]

/-! ### BCH words -/

/-- R140: each round subtracts nothing or a shifted `g`. -/
theorem congrMod_bchLoop {g : Nat} (hg : carrylessMul 1 g = g) (m n t : Nat) : CongrMod g t (bchLoop g m n t) := by
  induction n generalizing t with
  | zero => exact CongrMod.refl t
  | succ n ih =>
    refine CongrMod.trans ?_ (ih _)
    split
    · exact CongrMod.xor_shiftLeft hg t n
    · exact CongrMod.refl t

/-- R141, R144: a word of a systematic code is its payload and check bits, and a multiple of the generator. -/
theorem bchWord_eq_multiple {g m : Nat} (hdeg : HasDegree g m) (hg : carrylessMul 1 g = g) (d : Nat) :
    ∃ chk q : Nat, chk < 2 ^ m ∧ d * 2 ^ m + chk = carrylessMul q g ∧ bchWord g m d = d * 2 ^ m + chk := by
  have hword : bchWord g m d = d * 2 ^ m + bchRem (d <<< m) g m := by
    rw [bchWord, ← Nat.shiftLeft_add_eq_or_of_lt (bchRem_lt hdeg _), Nat.shiftLeft_eq]
  have hmultiple : CongrMod g (bchWord g m d) (bchRem (bchWord g m d) g m) := congrMod_bchLoop hg _ _ _
  rw [bchRem_bchWord hdeg] at hmultiple
  obtain ⟨q, hq⟩ := hmultiple
  exact ⟨_, q, bchRem_lt hdeg _, by rw [← hword, hq, Nat.xor_zero], hword⟩

/-- Settles O24: the raw word is a multiple of `G15`, and the mask covers all of it. -/
theorem bchFmtAnswersTheMaskedCodeword : Obligations.BchFmtAnswersTheMaskedCodeword := by
  intro d s hs
  obtain ⟨chk, q, hchk, hq, hword⟩ := bchWord_eq_multiple hasDegree_g15 (by decide) d.toNat
  refine ⟨chk, q, hchk, hq, ?_⟩
  rw [exec_of_completes s (.bchFmt d) hs, ← hword]
  rfl

/-- Settles O25: the word is a multiple of `G18`. -/
theorem bchVerAnswersTheCodeword : Obligations.BchVerAnswersTheCodeword := by
  intro v s hs
  obtain ⟨chk, q, hchk, hq, hword⟩ := bchWord_eq_multiple hasDegree_g18 (by decide) v.toNat
  refine ⟨chk, q, hchk, hq, ?_⟩
  rw [exec_of_completes s (.bchVer v) hs, ← hword]
  rfl

end Sys2Proof.Machine

end

section
/-! Polynomials over GF(256) as coefficient lists, highest power first (R120, R124, R128): their coefficients, their
values at the powers of `ALPHA`, the generator polynomial and the division of R125. -/

namespace Sys2Proof.Machine

open Sys2Proof.Reference

/-! ### Sums -/

theorem gfMul_xor_left (a b c : Byte) : gfMul (a ^^^ b) c = gfMul a c ^^^ gfMul b c := by
  rw [gfMul_comm, gfMul_xor, gfMul_comm c a, gfMul_comm c b]

@[simp] theorem gfMul_one_right (a : Byte) : gfMul a 0x01#8 = a := by
  rw [gfMul_comm, gfMul_one_left]

@[simp] theorem gfSum_nil : gfSum [] = 0#8 := rfl

@[simp] theorem gfSum_cons (a : Byte) (l : List Byte) : gfSum (a :: l) = a ^^^ gfSum l := rfl

@[simp] theorem gfSum_append (l m : List Byte) : gfSum (l ++ m) = gfSum l ^^^ gfSum m := by
  induction l with
  | nil => simp
  | cons a l ih => simp [ih, BitVec.xor_assoc]

theorem gfSum_map_xor {α : Type} (f g : α → Byte) (l : List α) :
    gfSum (l.map (fun i => f i ^^^ g i)) = gfSum (l.map f) ^^^ gfSum (l.map g) := by
  induction l with
  | nil => simp
  | cons a l ih =>
    simp only [List.map_cons, gfSum_cons, ih]
    ac_rfl

theorem gfSum_map_zero {α : Type} {f : α → Byte} {l : List α} (h : ∀ i ∈ l, f i = 0#8) : gfSum (l.map f) = 0#8 := by
  induction l with
  | nil => rfl
  | cons a l ih =>
    rw [List.map_cons, gfSum_cons, h a (by simp), ih (fun i hi => h i (by simp [hi])), BitVec.xor_self]

/-! ### Coefficients -/

/-- Two polynomials with as many coefficients, all equal, are one list. -/
theorem eq_of_getD {p q : List Byte} (hlen : p.length = q.length) (h : ∀ m < p.length, p.getD m 0#8 = q.getD m 0#8) :
    p = q := by
  refine List.ext_getElem hlen fun m hp hq => ?_
  have := h m hp
  rwa [List.getD_eq_getElem _ _ hp, List.getD_eq_getElem _ _ hq] at this

@[simp] theorem xorBytes_length (p q : List Byte) : (xorBytes p q).length = min p.length q.length :=
  List.length_zipWith

theorem xorBytes_cons (a b : Byte) (p q : List Byte) : xorBytes (a :: p) (b :: q) = (a ^^^ b) :: xorBytes p q := rfl

theorem getD_xorBytes {p q : List Byte} (h : p.length = q.length) (m : Nat) :
    (xorBytes p q).getD m 0#8 = p.getD m 0#8 ^^^ q.getD m 0#8 := by
  induction p generalizing q m with
  | nil =>
    obtain rfl : q = [] := List.length_eq_zero_iff.1 h.symm
    simp [xorBytes]
  | cons a p ih =>
    obtain ⟨b, q, rfl⟩ := List.exists_cons_of_length_eq_add_one h.symm
    cases m with
    | zero => simp [xorBytes_cons]
    | succ m => simpa [xorBytes_cons] using ih (by simpa using h) m

theorem getD_map_gfMul (f : Byte) (p : List Byte) (m : Nat) :
    (p.map (gfMul f)).getD m 0#8 = gfMul f (p.getD m 0#8) := by
  rw [← gfMul_zero_right f, List.getD_map]
  simp

/-- The coefficient `m` places from the top of a product (R100). -/
def convolution (p q : List Byte) (m : Nat) : Byte :=
  gfSum ((List.range (m + 1)).map (fun i => gfMul (p.getD i 0#8) (q.getD (m - i) 0#8)))

@[simp] theorem polyMul_length (p q : List Byte) : (polyMul p q).length = p.length + q.length - 1 := by
  simp [polyMul]

theorem convolution_eq_zero {p q : List Byte} {m : Nat} (h : p.length + q.length ≤ m + 1) :
    convolution p q m = 0#8 := by
  refine gfSum_map_zero fun i hi => ?_
  by_cases hp : p.length ≤ i
  · rw [List.getD_eq_default p _ hp, gfMul_zero_left]
  · rw [List.getD_eq_default q _ (by omega), gfMul_zero_right]

/-- The coefficients of a product, those above its top included. -/
theorem getD_polyMul (p q : List Byte) (m : Nat) : (polyMul p q).getD m 0#8 = convolution p q m := by
  by_cases h : m < p.length + q.length - 1
  · simp [polyMul, convolution, h, List.getD]
  · rw [List.getD_eq_default _ _ (by simpa using h), convolution_eq_zero (by omega)]

theorem gfSum_map_range_single (f : Nat → Byte) (a n : Nat) :
    gfSum ((List.range n).map (fun i => if i = a then f i else 0#8)) = if a < n then f a else 0#8 := by
  induction n with
  | zero => simp
  | succ n ih =>
    rw [List.range_succ, List.map_append, gfSum_append, ih]
    obtain h | rfl | h := Nat.lt_trichotomy a n
    · simp [h, h.ne', h.trans n.lt_succ_self]
    · simp
    · simp [h.not_gt, h.ne, show ¬ a < n + 1 by omega]

theorem getD_append_singleton (p : List Byte) (f : Byte) (i : Nat) :
    (p ++ [f]).getD i 0#8 = p.getD i 0#8 ^^^ if i = p.length then f else 0#8 := by
  obtain h | rfl | h := Nat.lt_trichotomy i p.length
  · rw [List.getD_append _ _ _ _ h, if_neg h.ne, BitVec.xor_zero]
  · simp
  · rw [List.getD_eq_default _ _ (by simpa using h), List.getD_eq_default _ _ h.le, if_neg h.ne', BitVec.xor_self]

theorem getD_zeros_append (n : Nat) (p : List Byte) (m : Nat) :
    (List.replicate n 0#8 ++ p).getD m 0#8 = if n ≤ m then p.getD (m - n) 0#8 else 0#8 := by
  split
  next h => rw [List.getD_append_right _ _ _ _ (by simpa using h), List.length_replicate]
  next h => rw [List.getD_append _ _ _ _ (by simpa using h)]; simp [not_le.1 h]

/-- One more coefficient `f` in the left factor adds `f` times the right factor. -/
theorem convolution_append_singleton (p q : List Byte) (f : Byte) (m : Nat) : convolution (p ++ [f]) q m =
    convolution p q m ^^^ if p.length ≤ m then gfMul f (q.getD (m - p.length) 0#8) else 0#8 := by
  have hlast : ∀ i, gfMul (if i = p.length then f else 0#8) (q.getD (m - i) 0#8) =
      if i = p.length then gfMul f (q.getD (m - i) 0#8) else 0#8 := fun i => by split <;> simp
  simp only [convolution, getD_append_singleton, gfMul_xor_left, gfSum_map_xor, hlast, Nat.lt_succ_iff,
    gfSum_map_range_single (fun i => gfMul f (q.getD (m - i) 0#8))]

theorem polyMul_append_singleton (p : List Byte) {q : List Byte} (hq : q ≠ []) (f : Byte) :
    polyMul (p ++ [f]) q = xorBytes (polyMul p q ++ [0#8]) (List.replicate p.length 0#8 ++ q.map (gfMul f)) := by
  have hpos := List.length_pos_iff.2 hq
  refine eq_of_getD (by simp; omega) fun m _ => ?_
  rw [getD_polyMul, convolution_append_singleton, getD_xorBytes (by simp; omega), getD_append_singleton, getD_polyMul,
    getD_zeros_append, getD_map_gfMul, ite_self, BitVec.xor_zero]

theorem polyMul_nil (q : List Byte) : polyMul [] q = List.replicate (q.length - 1) 0#8 := by
  refine eq_of_getD (by simp) fun m _ => ?_
  rw [getD_polyMul, convolution, gfSum_map_zero (fun i _ => by simp)]
  simp

/-! ### The generator polynomial (R120) -/

theorem mulLinear_length (g : List Byte) (c : Byte) : (mulLinear g c).length = g.length + 1 := by
  simp [mulLinear]

/-- R120: the inner loop multiplies by `x + c`. -/
theorem mulLinear_eq_polyMul (g : List Byte) (c : Byte) : mulLinear g c = polyMul g [0x01#8, c] := by
  refine eq_of_getD (by simp [mulLinear]) fun m _ => ?_
  rw [mulLinear, getD_xorBytes (by simp), getD_append_singleton, ite_self, BitVec.xor_zero, getD_polyMul, convolution]
  cases m with
  | zero => simp
  | succ m =>
    have hzero :
        gfSum ((List.range m).map (fun i => gfMul (g.getD i 0#8) ([0x01#8, c].getD (m + 1 - i) 0#8))) = 0#8 := by
      refine gfSum_map_zero fun i hi => ?_
      have := List.mem_range.1 hi
      rw [List.getD_eq_default [0x01#8, c] _ (by simp; omega), gfMul_zero_right]
    have hcomm : g.map (fun x => gfMul x c) = g.map (gfMul c) := List.map_congr_left fun x _ => gfMul_comm x c
    rw [List.range_succ, List.range_succ, List.map_append, List.map_append, gfSum_append, gfSum_append, hzero,
      List.getD_cons_succ, hcomm, getD_map_gfMul, gfMul_comm c]
    simp [BitVec.xor_comm]

@[simp] theorem genPoly_length (r : Nat) : (genPoly r).length = r + 1 := by
  induction r with
  | zero => rfl
  | succ r ih => rw [genPoly, mulLinear_length, ih]

/-- R120: the loop computes the product of the factors. -/
theorem genPoly_eq_generatorProduct {r : Nat} (hr : r ≤ 256) : genPoly r = generatorProduct r := by
  induction r with
  | zero => rfl
  | succ r ih =>
    rw [genPoly, ih (by omega), mulLinear_eq_polyMul, expTable_eq_alphaPow (by omega)]
    simp [generatorProduct, List.range_succ]

/-- R120: the generator polynomial is monic. -/
theorem genPoly_eq_cons (r : Nat) : genPoly r = 0x01#8 :: (genPoly r).tail := by
  induction r with
  | zero => rfl
  | succ r ih =>
    rw [genPoly, ih]
    rfl

/-! ### Values at the powers of `ALPHA` (R128) -/

@[simp] theorem valueAtAlpha_nil (j : Nat) : valueAtAlpha j [] = 0#8 := rfl

/-- Horner's recursion, from the top coefficient. -/
theorem valueAtAlpha_cons (j : Nat) (b : Byte) (c : List Byte) :
    valueAtAlpha j (b :: c) = gfMul b (alphaPow (j * c.length)) ^^^ valueAtAlpha j c := by
  have hindex : ∀ i, c.length + 1 - 1 - (i + 1) = c.length - 1 - i := fun i => by omega
  simp only [valueAtAlpha, expTable_mod, List.length_cons, List.range_succ_eq_map, List.map_cons, List.map_map,
    Function.comp_def, gfSum_cons, List.getD_cons_zero, List.getD_cons_succ, Nat.succ_eq_add_one, hindex]
  rfl

/-- R129's inner loop, from any value so far. -/
theorem foldl_horner (j : Nat) (acc : Byte) (c : List Byte) :
    c.foldl (fun acc b => gfMul acc (alphaPow j) ^^^ b) acc =
      gfMul acc (alphaPow (j * c.length)) ^^^ valueAtAlpha j c := by
  induction c generalizing acc with
  | nil => simp [alphaPow]
  | cons b c ih =>
    rw [List.foldl_cons, ih, valueAtAlpha_cons, gfMul_xor_left, gfMul_assoc, gfMul_alphaPow, List.length_cons,
      Nat.mul_succ, Nat.add_comm j, BitVec.xor_assoc]

/-- R128, R129: Horner's rule computes the value. -/
theorem horner_eq_valueAtAlpha (j : Nat) (c : List Byte) : horner (alphaPow j) c = valueAtAlpha j c := by
  rw [horner, foldl_horner, gfMul_zero_left, BitVec.zero_xor]

theorem valueAtAlpha_append (j : Nat) (p q : List Byte) :
    valueAtAlpha j (p ++ q) = gfMul (valueAtAlpha j p) (alphaPow (j * q.length)) ^^^ valueAtAlpha j q := by
  rw [← horner_eq_valueAtAlpha, horner, List.foldl_append, ← horner, horner_eq_valueAtAlpha, foldl_horner]

theorem valueAtAlpha_xorBytes (j : Nat) {p q : List Byte} (h : p.length = q.length) :
    valueAtAlpha j (xorBytes p q) = valueAtAlpha j p ^^^ valueAtAlpha j q := by
  induction p generalizing q with
  | nil =>
    obtain rfl : q = [] := List.length_eq_zero_iff.1 h.symm
    simp [xorBytes]
  | cons a p ih =>
    obtain ⟨b, q, rfl⟩ := List.exists_cons_of_length_eq_add_one h.symm
    have h : p.length = q.length := by simpa using h
    rw [xorBytes_cons, valueAtAlpha_cons, valueAtAlpha_cons, valueAtAlpha_cons, ih h, gfMul_xor_left,
      xorBytes_length, h,
      Nat.min_self]
    ac_rfl

theorem valueAtAlpha_map_gfMul (j : Nat) (f : Byte) (p : List Byte) :
    valueAtAlpha j (p.map (gfMul f)) = gfMul f (valueAtAlpha j p) := by
  induction p with
  | nil => simp
  | cons a p ih => rw [List.map_cons, valueAtAlpha_cons, valueAtAlpha_cons, ih, gfMul_xor, gfMul_assoc, List.length_map]

@[simp] theorem valueAtAlpha_zeros (j n : Nat) : valueAtAlpha j (List.replicate n 0#8) = 0#8 := by
  induction n with
  | zero => rfl
  | succ n ih => rw [List.replicate_succ, valueAtAlpha_cons, ih, gfMul_zero_left, BitVec.xor_self]

theorem valueAtAlpha_singleton (j : Nat) (b : Byte) : valueAtAlpha j [b] = b := by
  simp [valueAtAlpha_cons, alphaPow]

/-- A leading zero changes no value. -/
theorem valueAtAlpha_zero_cons (j : Nat) (p : List Byte) : valueAtAlpha j (0#8 :: p) = valueAtAlpha j p := by
  rw [valueAtAlpha_cons, gfMul_zero_left, BitVec.zero_xor]

/-- A trailing zero multiplies by x. -/
theorem valueAtAlpha_append_zero (j : Nat) (p : List Byte) :
    valueAtAlpha j (p ++ [0#8]) = gfMul (valueAtAlpha j p) (alphaPow j) := by
  rw [valueAtAlpha_append, valueAtAlpha_singleton, BitVec.xor_zero, List.length_singleton, Nat.mul_one]

/-- Multiplying by `x + c` multiplies the value. -/
theorem valueAtAlpha_mulLinear (j : Nat) (g : List Byte) (c : Byte) :
    valueAtAlpha j (mulLinear g c) = gfMul (valueAtAlpha j g) (alphaPow j ^^^ c) := by
  have hcomm : g.map (fun x => gfMul x c) = g.map (gfMul c) := List.map_congr_left fun x _ => gfMul_comm x c
  rw [mulLinear, valueAtAlpha_xorBytes j (by simp), valueAtAlpha_append_zero, valueAtAlpha_zero_cons, hcomm,
    valueAtAlpha_map_gfMul, gfMul_xor, gfMul_comm c]

/-- R120, R126: the roots of the generator polynomial. -/
theorem valueAtAlpha_genPoly {j r : Nat} (hj : j < r) (hr : r ≤ 256) : valueAtAlpha j (genPoly r) = 0#8 := by
  induction r with
  | zero => exact absurd hj (Nat.not_lt_zero j)
  | succ r ih =>
    rw [genPoly, valueAtAlpha_mulLinear]
    obtain hlt | rfl := (Nat.lt_succ_iff.1 hj).lt_or_eq
    · rw [ih hlt (by omega), gfMul_zero_left]
    · rw [expTable_eq_alphaPow (by omega), BitVec.xor_self, gfMul_zero_right]

/-- One coefficient replaced. -/
theorem valueAtAlpha_set (j : Nat) (c : List Byte) {i : Nat} (hi : i < c.length) (b : Byte) :
    valueAtAlpha j (c.set i b) =
      valueAtAlpha j c ^^^ gfMul (c.getD i 0#8 ^^^ b) (alphaPow (j * (c.length - 1 - i))) := by
  induction c generalizing i with
  | nil => exact absurd hi (Nat.not_lt_zero i)
  | cons a c ih =>
    cases i with
    | zero =>
      simp only [List.set_cons_zero, valueAtAlpha_cons, List.getD_cons_zero, List.length_cons, Nat.add_sub_cancel,
        Nat.sub_zero, gfMul_xor_left]
      rw [BitVec.xor_comm, BitVec.xor_comm (gfMul a _), BitVec.xor_assoc, ← BitVec.xor_assoc (gfMul a _),
        BitVec.xor_self,
        BitVec.zero_xor]
    | succ i =>
      simp only [List.set_cons_succ, valueAtAlpha_cons, List.length_set, List.getD_cons_succ, List.length_cons,
        ih (Nat.lt_of_succ_lt_succ hi), BitVec.xor_assoc]
      rw [show c.length + 1 - 1 - (i + 1) = c.length - 1 - i by omega]

/-- The value of a product is the product of the values. -/
theorem valueAtAlpha_polyMul (j : Nat) (p : List Byte) {q : List Byte} (hq : q ≠ []) :
    valueAtAlpha j (polyMul p q) = gfMul (valueAtAlpha j p) (valueAtAlpha j q) := by
  induction p using List.reverseRecOn with
  | nil => rw [polyMul_nil, valueAtAlpha_zeros, valueAtAlpha_nil, gfMul_zero_left]
  | append_singleton p f ih =>
    have hpos := List.length_pos_iff.2 hq
    rw [polyMul_append_singleton p hq, valueAtAlpha_xorBytes j (by simp; omega), valueAtAlpha_append_zero, ih,
      valueAtAlpha_append j (List.replicate _ _), valueAtAlpha_zeros, valueAtAlpha_map_gfMul, valueAtAlpha_append,
      valueAtAlpha_singleton, gfMul_xor_left, gfMul_zero_left, BitVec.zero_xor, List.length_singleton, Nat.mul_one,
      gfMul_assoc, gfMul_comm (valueAtAlpha j q), gfMul_assoc]

/-! ### The division (R124, R125) -/

theorem xorBytes_append {p p' q q' : List Byte} (h : p.length = q.length) :
    xorBytes (p ++ p') (q ++ q') = xorBytes p q ++ xorBytes p' q' := List.zipWith_append h

theorem xorBytes_zeros (p : List Byte) : xorBytes p (List.replicate p.length 0#8) = p := by
  induction p with
  | nil => rfl
  | cons a p ih => rw [List.length_cons, List.replicate_succ, xorBytes_cons, ih, BitVec.xor_zero]

theorem xorBytes_self (p : List Byte) : xorBytes p p = List.replicate p.length 0#8 := by
  induction p with
  | nil => rfl
  | cons a p ih => rw [xorBytes_cons, ih, BitVec.xor_self, List.length_cons, List.replicate_succ]

theorem encStep_cons (tail t : List Byte) (h d : Byte) :
    encStep tail (h :: t) d = xorBytes (t ++ [0#8]) (tail.map (gfMul (d ^^^ h))) := rfl

theorem parityBytes_append_singleton (tail data : List Byte) (d : Byte) :
    parityBytes tail (data ++ [d]) = encStep tail (parityBytes tail data) d := by
  simp [parityBytes]

theorem encStep_length {tail rem : List Byte} (h : rem.length = tail.length) (d : Byte) :
    (encStep tail rem d).length = tail.length := by
  simp only [encStep, xorBytes_length, List.length_append, List.length_tail, List.length_map, List.length_singleton]
  omega

@[simp] theorem parityBytes_length (tail data : List Byte) : (parityBytes tail data).length = tail.length := by
  induction data using List.reverseRecOn with
  | nil => simp [parityBytes]
  | append_singleton data d ih => rw [parityBytes_append_singleton, encStep_length ih]

/-- R124, R125: data and parity together are a multiple of the generator polynomial `1 :: tail`: each data byte adds the
coefficient of the quotient that cancels the top of the remainder. -/
theorem exists_polyMul_eq_codeword {tail : List Byte} (hpos : 0 < tail.length) (data : List Byte) :
    ∃ q : List Byte, q.length = data.length ∧ polyMul q (0x01#8 :: tail) = data ++ parityBytes tail data := by
  induction data using List.reverseRecOn with
  | nil => exact ⟨[], rfl, by simp [polyMul_nil, parityBytes]⟩
  | append_singleton data d ih =>
    obtain ⟨q, hlen, hq⟩ := ih
    obtain ⟨h, t, hrem⟩ := List.exists_cons_of_length_pos (by simpa using hpos : 0 < (parityBytes tail data).length)
    refine ⟨q ++ [d ^^^ h], by simp [hlen], ?_⟩
    have htop : h ^^^ (d ^^^ h) = d := by rw [BitVec.xor_comm d, ← BitVec.xor_assoc, BitVec.xor_self, BitVec.zero_xor]
    calc polyMul (q ++ [d ^^^ h]) (0x01#8 :: tail)
        = xorBytes (data ++ h :: (t ++ [0#8]))
            (List.replicate data.length 0#8 ++ (d ^^^ h) :: tail.map (gfMul (d ^^^ h))) := by
          rw [polyMul_append_singleton _ (List.cons_ne_nil _ _), hq, hrem, hlen]
          simp
      _ = data ++ d :: xorBytes (t ++ [0#8]) (tail.map (gfMul (d ^^^ h))) := by
          rw [xorBytes_append (by simp), xorBytes_zeros, xorBytes_cons, htop]
      _ = data ++ [d] ++ parityBytes tail (data ++ [d]) := by
          rw [parityBytes_append_singleton, hrem, encStep_cons, List.append_assoc, List.singleton_append]

/-- R126, R132: a codeword vanishes where the generator polynomial does. -/
theorem valueAtAlpha_codeword {tail : List Byte} (hpos : 0 < tail.length) {j : Nat}
    (hroot : valueAtAlpha j (0x01#8 :: tail) = 0#8) (data : List Byte) :
    valueAtAlpha j (data ++ parityBytes tail data) = 0#8 := by
  obtain ⟨q, -, hq⟩ := exists_polyMul_eq_codeword hpos data
  rw [← hq, valueAtAlpha_polyMul j q (List.cons_ne_nil _ _), hroot, gfMul_zero_right]

/-- R125: one round is linear in the remainder and the data byte. -/
theorem encStep_xorBytes {tail p q : List Byte} (hp : p.length = tail.length) (hq : q.length = tail.length) (c
    d : Byte) :
    encStep tail (xorBytes p q) (c ^^^ d) = xorBytes (encStep tail p c) (encStep tail q d) := by
  have hpq : p.length = q.length := hp.trans hq.symm
  have hlen := encStep_length (tail := tail) (rem := xorBytes p q) (by simp [hp, hq]) (c ^^^ d)
  refine eq_of_getD (by simp [hlen, encStep_length hp, encStep_length hq]) fun m hm => ?_
  have hpos : 0 < tail.length := by omega
  obtain ⟨a, p, rfl⟩ := List.exists_cons_of_length_pos (hp ▸ hpos : 0 < p.length)
  obtain ⟨b, q, rfl⟩ := List.exists_cons_of_length_pos (hq ▸ hpos : 0 < q.length)
  simp only [List.length_cons, Nat.add_right_cancel_iff] at hp hq hpq
  rw [getD_xorBytes (by rw [encStep_length (by simpa using hp), encStep_length (by simpa using hq)]), xorBytes_cons]
  simp only [encStep_cons]
  rw [getD_xorBytes (by simp; omega), getD_xorBytes (by simp; omega), getD_xorBytes (by simp; omega),
    getD_append_singleton, getD_append_singleton, getD_append_singleton, getD_xorBytes hpq]
  simp only [getD_map_gfMul, gfMul_xor_left, ite_self, BitVec.xor_zero]
  ac_rfl

/-- R125: the division is linear. -/
theorem parityBytes_xorBytes (tail : List Byte) {c d : List Byte} (h : c.length = d.length) :
    parityBytes tail (xorBytes c d) = xorBytes (parityBytes tail c) (parityBytes tail d) := by
  suffices hfold : ∀ p q : List Byte, p.length = tail.length → q.length = tail.length →
      (xorBytes c d).foldl (encStep tail) (xorBytes p q) =
        xorBytes (c.foldl (encStep tail) p) (d.foldl (encStep tail) q) by
    have hzero := hfold (List.replicate tail.length 0#8) (List.replicate tail.length 0#8) (by simp) (by simp)
    rwa [xorBytes_self, List.length_replicate] at hzero
  induction c generalizing d with
  | nil =>
    obtain rfl : d = [] := List.length_eq_zero_iff.1 h.symm
    exact fun p q _ _ => rfl
  | cons a c ih =>
    obtain ⟨b, d, rfl⟩ := List.exists_cons_of_length_eq_add_one h.symm
    intro p q hp hq
    rw [xorBytes_cons, List.foldl_cons, List.foldl_cons, List.foldl_cons, encStep_xorBytes hp hq]
    exact ih (by simpa using h) _ _ (encStep_length hp a) (encStep_length hq b)

end Sys2Proof.Machine

end

section
/-! The commands of the Reed–Solomon unit (41_reed_solomon.md) on a unit that is ready: what each completes with, read
through the polynomial facts; the obligations on them. -/

namespace Sys2Proof.Machine

open Sys2Proof.Reference

/-! ### Slices of a byte array -/

theorem Memory.slice_eq_of_read {m : Memory} {i n : Nat} {p : List Byte} (hlen : p.length = n)
    (h : ∀ j < n, m.read (i + j) = p.getD j 0#8) : m.slice i n = p :=
  eq_of_getD (by simp [hlen]) fun j hj => by
    have hj : j < n := by simpa using hj
    exact (Memory.slice_getD m i n j hj).trans (h j hj)

theorem Memory.slice_append (m : Memory) (i n k : Nat) : m.slice i (n + k) = m.slice i n ++ m.slice (i + n) k := by
  simp [Memory.slice, List.range_add, Function.comp_def, Nat.add_assoc]

theorem Memory.slice_write (m : Memory) {i n : Nat} (v : Byte) : (m.write i v).slice 0 n = (m.slice 0 n).set i v := by
  refine Memory.slice_eq_of_read (by simp) fun j hj => ?_
  rw [Memory.read_write, Nat.zero_add]
  by_cases hji : j = i
  · subst hji
    simp [hj]
  · rw [if_neg hji, List.getD_eq_getElem _ _ (by simpa using hj), List.getElem_set_ne (Ne.symm hji)]
    simp [Memory.slice]

/-! ### A unit that is ready -/

namespace State.RsReady

variable {s : State} (h : s.RsReady)
include h

theorem genTail_pos : 0 < s.genTail.length := (Memory.slice_length s.gen 1 s.rsR.toNat).symm ▸ h.parityPos

theorem exec_rsWr {idx : Byte} (hidx : idx.toNat < s.rsK.toNat + s.rsR.toNat) (byte : Byte) :
    exec (.rsWr idx byte) s = .next (effect s (.rsWr idx byte)) :=
  exec_of_completes s _ ⟨h.running, h.valid, cwIndexOk_iff.2 hidx, by have := h.lengthMax; omega⟩

theorem exec_rsRd {idx : Byte} (hidx : idx.toNat < s.rsK.toNat + s.rsR.toNat) :
    exec (.rsRd idx) s = .next (effect s (.rsRd idx)) :=
  exec_of_completes s _ ⟨h.running, h.valid, cwIndexOk_iff.2 hidx, by have := h.lengthMax; omega⟩

theorem exec_rsEnc : exec .rsEnc s = .next (effect s .rsEnc) :=
  exec_of_completes s _ ⟨h.running, h.valid, h.lengthMax, by have := h.parityMax; omega⟩

theorem exec_rsSynd : exec .rsSynd s = .next (effect s .rsSynd) :=
  exec_of_completes s _ ⟨h.running, h.valid, h.lengthMax, h.parityMax⟩

theorem exec_rsRdsyn (hsyn : s.synValid = true) {j : Byte} (hj : j.toNat < s.rsR.toNat) :
    exec (.rsRdsyn j) s = .next (effect s (.rsRdsyn j)) :=
  exec_of_completes s _ ⟨h.running, h.valid, hsyn, synIndexOk_iff.2 hj, by have := h.parityMax; omega⟩

theorem exec_rsRdgen {i : Byte} (hi : i.toNat ≤ s.rsR.toNat) : exec (.rsRdgen i) s = .next (effect s (.rsRdgen i)) :=
  exec_of_completes s _ ⟨h.running, h.valid, genIndexOk_iff.2 hi, by have := h.parityMax; omega⟩

/-- The commands of the unit that write its arrays leave it ready. -/
theorem of_rsWr (idx byte : Byte) : (effect s (.rsWr idx byte)).RsReady :=
  ⟨h.running, h.valid, h.parityPos, h.parityMax, h.lengthMax⟩

theorem of_rsEnc : (effect s .rsEnc).RsReady := ⟨h.running, h.valid, h.parityPos, h.parityMax, h.lengthMax⟩

end State.RsReady

theorem State.Inv.rsReady {s : State} (h : s.Inv) (hs : s.faulted = false) (hrs : s.rsValid = true) : s.RsReady := by
  obtain ⟨hpos, hmax, hlen⟩ := h.rsBounds hrs
  exact ⟨hs, hrs, hpos, hmax, hlen⟩

/-! ### Configuration -/

/-- R121: `GEN` holds the generator polynomial, with zeros above. -/
theorem read_configureRs_gen (s : State) (k r : Byte) (i : Nat) :
    (s.configureRs k r).gen.read i = (genPoly r.toNat).getD i 0#8 := by
  rw [configureRs_gen, Memory.read_writeFrom, Nat.zero_add, Nat.sub_zero]
  split
  · rfl
  next hi => rw [List.getD_eq_default _ _ (by omega)]; rfl

theorem exec_rsCfg {k r : Byte} {s : State} (hs : s.faulted = false) (hpos : 1 ≤ r.toNat) (hmax : r.toNat ≤ 30)
    (hlen : k.toNat + r.toNat ≤ 255) : exec (.rsCfg k r) s = .next (effect s (.rsCfg k r)) :=
  exec_of_completes s _ ⟨hs, rsCfgOk_iff.2 ⟨hpos, hmax, hlen⟩⟩

/-- Settles O27: `RS_CFG` stores what R120's loop computes, the product of the factors. -/
theorem rsCfgConfiguresAndClears : Obligations.RsCfgConfiguresAndClears := by
  intro k r s hs hpos hmax hlen
  refine ⟨_, exec_rsCfg hs hpos hmax hlen, Memory.read_nil, Memory.read_nil, fun i => ?_, rfl⟩
  rw [← genPoly_eq_generatorProduct (by omega)]
  exact read_configureRs_gen s k r i

/-- Settles O28: the generator polynomial is monic, and vanishes at the root of each of its factors. -/
theorem generatorPolynomialIsMonicWithItsRoots : Obligations.GeneratorPolynomialIsMonicWithItsRoots := by
  intro k r s hs hpos hmax hlen
  have hgen := read_configureRs_gen s k r
  refine ⟨_, exec_rsCfg hs hpos hmax hlen, (hgen 0).trans ?_, fun j hj => ?_⟩
  · rw [genPoly_eq_cons, List.getD_cons_zero]
  · have hslice : (s.configureRs k r).gen.slice 0 (r.toNat + 1) = genPoly r.toNat :=
      Memory.slice_eq_of_read (genPoly_length _) fun i _ => by rw [Nat.zero_add, hgen]
    exact (congrArg (valueAtAlpha j) hslice).trans (valueAtAlpha_genPoly hj (by omega))

/-! ### Access to the buffer -/

/-- Settles O29: a read of the buffer after the one write. -/
theorem rsWrWritesOneByte : Obligations.RsWrWritesOneByte :=
  fun _ byte _ h hidx => ⟨_, h.exec_rsWr hidx byte, fun j => Memory.read_write _ _ j byte, rfl⟩

/-! ### Encoding (R125) -/

@[simp] theorem dataBytes_length (s : State) : s.dataBytes.length = s.rsK.toNat := Memory.slice_length _ _ _

@[simp] theorem genTail_length (s : State) : s.genTail.length = s.rsR.toNat := Memory.slice_length _ _ _

/-- R125: the parity positions hold the remainder, every other element what it held. -/
theorem read_storeParity (s : State) (i : Nat) : s.storeParity.cw.read i =
    if s.rsK.toNat ≤ i ∧ i < s.rsK.toNat + s.rsR.toNat then
      (parityBytes s.genTail s.dataBytes).getD (i - s.rsK.toNat) 0#8 else s.cw.read i := by
  rw [storeParity_cw, Memory.read_writeFrom, parityBytes_length, genTail_length]
  rfl

/-- R125: the remainder, read back. -/
theorem slice_storeParity (s : State) :
    s.storeParity.cw.slice s.rsK.toNat s.rsR.toNat = parityBytes s.genTail s.dataBytes :=
  Memory.slice_eq_of_read (by simp) fun j hj => by
    rw [read_storeParity, if_pos (by omega), Nat.add_sub_cancel_left]

/-- R125: the data bytes are kept. -/
theorem dataBytes_storeParity (s : State) : s.storeParity.dataBytes = s.dataBytes :=
  Memory.slice_congr fun j _ hj => by
    rw [read_storeParity, if_neg]
    simp only [storeParity_rsK] at hj
    omega

/-- R125: the codeword after encoding. -/
theorem codeword_storeParity (s : State) :
    s.storeParity.codeword = s.dataBytes ++ parityBytes s.genTail s.dataBytes := by
  rw [← slice_storeParity, ← dataBytes_storeParity s, State.codeword, State.codewordLen, Memory.slice_append,
    Nat.zero_add]
  rfl

/-- R28: with the generator polynomial in `GEN` the division runs by it. -/
theorem cons_genTail {s : State} (hgen : ∀ i, s.gen.read i = (genPoly s.rsR.toNat).getD i 0#8) :
    0x01#8 :: s.genTail = genPoly s.rsR.toNat := by
  have htail : s.genTail = (genPoly s.rsR.toNat).tail := Memory.slice_eq_of_read (by simp) fun j _ => by
    rw [hgen, Nat.add_comm, genPoly_eq_cons, List.getD_cons_succ]
    rfl
  rw [htail, ← genPoly_eq_cons]

/-- Settles O31: data and parity together are a multiple of the generator polynomial, so the data with zeros below is
that multiple plus the parity. -/
theorem rsEncStoresTheRemainder : Obligations.RsEncStoresTheRemainder := by
  intro s h hgen
  obtain ⟨q, hlen, hq⟩ := exists_polyMul_eq_codeword h.genTail_pos s.dataBytes
  refine ⟨_, q, h.exec_rsEnc, by simpa using hlen, ?_, fun i hi => ?_, rfl⟩
  · calc s.dataBytes ++ List.replicate s.rsR.toNat 0#8
        = xorBytes (s.dataBytes ++ parityBytes s.genTail s.dataBytes)
            (List.replicate s.dataBytes.length 0#8 ++ parityBytes s.genTail s.dataBytes) := by
          rw [xorBytes_append (by simp), xorBytes_zeros, xorBytes_self, parityBytes_length, genTail_length]
      _ = xorBytes (polyMul q (genPoly s.rsR.toNat)) (List.replicate s.rsK.toNat 0#8 ++
            s.storeParity.cw.slice s.rsK.toNat s.rsR.toNat) := by
          rw [← hq, cons_genTail hgen, slice_storeParity, dataBytes_length]
  · exact (read_storeParity s i).trans (if_neg (by omega))

/-- Settles O35: the division is linear, and so is what is kept of the data. -/
theorem encodingIsLinear : Obligations.EncodingIsLinear := by
  intro a b c ha hb hc hbk hck hbr hcr hbgen hcgen hdata
  have htailb : b.genTail = a.genTail := by
    rw [State.genTail, hbr]
    exact Memory.slice_congr fun j _ _ => hbgen j
  have htailc : c.genTail = a.genTail := by
    rw [State.genTail, hcr]
    exact Memory.slice_congr fun j _ _ => hcgen j
  have hbytes : c.dataBytes = xorBytes a.dataBytes b.dataBytes := by
    refine Memory.slice_eq_of_read (by simp [hbk, hck]) fun j hj => ?_
    rw [hck] at hj
    rw [getD_xorBytes (by simp [hbk]), Nat.zero_add, hdata j hj, State.dataBytes, State.dataBytes, hbk]
    exact congrArg₂ (· ^^^ ·) (by simp [Memory.slice, hj]) (by simp [Memory.slice, hj])
  refine ⟨_, _, _, ha.exec_rsEnc, hb.exec_rsEnc, hc.exec_rsEnc, fun i hi => ?_⟩
  have hread : c.storeParity.cw.read i = a.storeParity.cw.read i ^^^ b.storeParity.cw.read i := by
    simp only [read_storeParity, hbk, hck, hbr, hcr, htailb, htailc, hbytes]
    split
    · rw [parityBytes_xorBytes _ (by simp [hbk]), getD_xorBytes (by simp)]
    · exact hdata i (by omega)
  exact hread

/-- Settles O36: what is stored is a function of the data bytes and `GEN`. -/
theorem encodingIgnoresTheParityPositions : Obligations.EncodingIgnoresTheParityPositions := by
  intro a b ha hb hk hr hgen hdata
  have htail : b.genTail = a.genTail := by
    rw [State.genTail, hr]
    exact Memory.slice_congr fun j _ _ => hgen j
  have hbytes : b.dataBytes = a.dataBytes := by
    rw [State.dataBytes, hk]
    exact Memory.slice_congr fun j _ hj => hdata j (by omega)
  refine ⟨_, _, ha.exec_rsEnc, hb.exec_rsEnc, fun i hi => ?_⟩
  have hread : a.storeParity.cw.read i = b.storeParity.cw.read i := by
    simp only [read_storeParity, hk, hr, htail, hbytes]
    split
    · rfl
    · exact (hdata i (by omega)).symm
  exact hread

/-! ### Syndromes (R128, R129) -/

theorem syndromes_eq_map (r : Byte) (c : List Byte) :
    syndromes r.toNat c = (List.range r.toNat).map (fun j => valueAtAlpha j c) := by
  refine List.map_congr_left fun j hj => ?_
  have hj := List.mem_range.1 hj
  rw [expTable_eq_alphaPow (by have := r.isLt; omega), horner_eq_valueAtAlpha]

/-- R128, R129: what `RS_SYND` stores. -/
theorem read_storeSyndromes (s : State) (j : Nat) :
    s.storeSyndromes.syn.read j = if j < s.rsR.toNat then valueAtAlpha j s.codeword else s.syn.read j := by
  rw [storeSyndromes_syn, Memory.read_writeFrom, syndromes_eq_map]
  by_cases hj : j < s.rsR.toNat
  · simp [hj]
  · simp [hj]

theorem codewordOk_iff (s : State) : s.codewordOk = true ↔ ∀ j < s.rsR.toNat, valueAtAlpha j s.codeword = 0#8 := by
  simp [State.codewordOk, syndromes_eq_map, List.all_eq_true]

/-- R129: the flag says whether the syndromes stored are all zero. -/
theorem synZero_storeSyndromes (s : State) :
    s.storeSyndromes.synZero = true ↔ ∀ j < s.rsR.toNat, s.storeSyndromes.syn.read j = 0#8 := by
  rw [storeSyndromes_synZero, codewordOk_iff]
  exact forall₂_congr fun j hj => by rw [read_storeSyndromes, if_pos hj]

theorem flagAt_zero (b : Bool) : flagAt b 0 = if b = true then 1 else 0 := by
  cases b <;> rfl

/-- Settles O32: Horner's rule computes the values. -/
theorem rsSyndStoresTheSyndromes : Obligations.RsSyndStoresTheSyndromes := by
  intro s h
  refine ⟨_, h.exec_rsSynd, read_storeSyndromes s, rfl, synZero_storeSyndromes s, ?_⟩
  rw [effect, flagAt_zero]
  rfl

/-- R126, R132: the syndromes of what `RS_ENC` leaves are zero. -/
theorem valueAtAlpha_storeParity {s : State} (h : s.RsReady)
    (hgen : ∀ i, s.gen.read i = (genPoly s.rsR.toNat).getD i 0#8) {j : Nat} (hj : j < s.rsR.toNat) :
    valueAtAlpha j s.storeParity.codeword = 0#8 := by
  rw [codeword_storeParity]
  refine valueAtAlpha_codeword h.genTail_pos ?_ _
  rw [cons_genTail hgen]
  exact valueAtAlpha_genPoly hj (by have := h.parityMax; omega)

/-- Settles O33: a codeword vanishes at the roots of the generator polynomial, which are the points of the syndromes. -/
theorem encodedBlockHasZeroSyndromes : Obligations.EncodedBlockHasZeroSyndromes := by
  intro s hinv hs hrs
  have h := hinv.rsReady hs hrs
  have hzero : ∀ j < s.rsR.toNat, valueAtAlpha j (effect s .rsEnc).codeword = 0#8 :=
    fun j hj => valueAtAlpha_storeParity h (hinv.generator hrs) hj
  have hok : (effect s .rsEnc).codewordOk = true := (codewordOk_iff _).2 hzero
  refine ⟨_, _, h.exec_rsEnc, h.of_rsEnc.exec_rsSynd, rfl, hok, ?_, fun j hj => ?_⟩
  · exact (flagAt_zero _).trans (if_pos hok)
  · exact (read_storeSyndromes _ j).trans ((if_pos hj).trans (hzero j hj))

/-- R122: a write replaces one byte of the codeword. -/
theorem codeword_rsWr (s : State) (idx byte : Byte) :
    (effect s (.rsWr idx byte)).codeword = s.codeword.set idx.toNat byte := Memory.slice_write s.cw byte

/-- R132: a byte that is not the one held changes every syndrome of a codeword from zero: the change is a product of two
elements other than zero. -/
theorem valueAtAlpha_rsWr_ne_zero {s : State} {j : Nat} (hzero : valueAtAlpha j s.codeword = 0#8) {idx byte : Byte}
    (hidx : idx.toNat < s.rsK.toNat + s.rsR.toNat) (hne : byte ≠ s.cw.read idx.toNat) :
    valueAtAlpha j (effect s (.rsWr idx byte)).codeword ≠ 0#8 := by
  have hheld : s.codeword.getD idx.toNat 0#8 = s.cw.read idx.toNat := by
    rw [← Nat.zero_add idx.toNat]
    exact (Memory.slice_getD s.cw 0 s.codewordLen _ (by rwa [Nat.zero_add])).trans (by rw [Nat.zero_add])
  rw [codeword_rsWr, valueAtAlpha_set j _ (by rwa [State.codeword, Memory.slice_length]), hheld, hzero, BitVec.zero_xor]
  intro hprod
  obtain hxor | hpow := eq_zero_or_eq_zero_of_gfMul hprod
  · exact hne (BitVec.xor_eq_zero_iff.1 hxor).symm
  · exact alphaPow_ne_zero _ hpow

/-- R129: a first syndrome other than zero is stored, clears the flag and is answered with 0. -/
theorem rsSynd_of_ne_zero {s : State} (hpos : 0 < s.rsR.toNat) (hne : valueAtAlpha 0 s.codeword ≠ 0#8) :
    (effect s .rsSynd).syn.read 0 ≠ 0#8 ∧ (effect s .rsSynd).synZero = false ∧ (effect s .rsSynd).resp = 0 := by
  have hok : s.codewordOk = false := Bool.eq_false_iff.2 fun hok => hne ((codewordOk_iff s).1 hok 0 hpos)
  exact ⟨((read_storeSyndromes s 0).trans (if_pos hpos)).trans_ne hne, hok, congrArg (flagAt · 0) hok⟩

/-- Settles O34: the first syndrome is zero for the codeword and not for the changed one. -/
theorem oneWrongByteIsDetected : Obligations.OneWrongByteIsDetected := by
  intro s idx byte hinv hs hrs hidx
  have h := hinv.rsReady hs hrs
  refine ⟨_, h.exec_rsEnc, fun hne => ⟨_, _, h.of_rsEnc.exec_rsWr hidx byte,
    (h.of_rsEnc.of_rsWr idx byte).exec_rsSynd, rsSynd_of_ne_zero h.parityPos ?_⟩⟩
  exact valueAtAlpha_rsWr_ne_zero (valueAtAlpha_storeParity h (hinv.generator hrs) h.parityPos) hidx hne

end Sys2Proof.Machine

end

section
/-! One line of the grid (43_penalty.md): the pass of R166 cuts a line into its maximal runs (R164), the scan of R168
counts window positions, and both counts are unchanged when a line is read from its other end. -/

namespace Sys2Proof.Machine

open Sys2Proof.Reference

/-! ### The pass of R166 -/

theorem runScore_le (l : Nat) : runScore l ≤ l - 2 := by
  unfold runScore Config.w1From Config.w1Base
  split <;> omega

theorem runPass_le (c : Bool) (run : Nat) (line : List Bool) : runPass c run line ≤ run + line.length - 2 := by
  induction line generalizing c run with
  | nil => exact runScore_le run
  | cons m line ih =>
    have hsame := ih c (run + 1)
    have hother := ih m 1
    have hscore := runScore_le run
    simp only [runPass, List.length_cons]
    split <;> omega

/-- R166: a line of `N` modules scores at most `N - 2`. -/
theorem lineRuns_le (line : List Bool) : lineRuns line ≤ line.length - 2 := by
  cases line with
  | nil => exact Nat.zero_le _
  | cons m line =>
    have := runPass_le m 1 line
    simp only [lineRuns, List.length_cons]
    omega

/-- R166: at a change of colour the pass starts afresh. -/
theorem runPass_append (c : Bool) (run : Nat) (x : List Bool) {y : List Bool}
    (h : y.head? ≠ some ((c :: x).getLast (List.cons_ne_nil c x))) :
    runPass c run (x ++ y) = runPass c run x + lineRuns y := by
  induction x generalizing c run with
  | nil =>
    cases y with
    | nil => rfl
    | cons m y =>
      have hm : m ≠ c := fun hm => h (by simp [hm])
      simp [runPass, lineRuns, hm]
  | cons m x ih =>
    have hm := ih m
    rw [List.getLast_cons (List.cons_ne_nil m x)] at h
    simp only [List.cons_append, runPass]
    split
    next heq => exact heq ▸ hm (run + 1) h
    next => rw [hm 1 h, Nat.add_assoc]

theorem lineRuns_append {x y : List Bool} (h : ∀ c ∈ x.getLast?, y.head? ≠ some c) :
    lineRuns (x ++ y) = lineRuns x + lineRuns y := by
  cases x with
  | nil => simp [lineRuns]
  | cons c x => exact runPass_append c 1 x (h _ (by simp [List.getLast?_eq_getLast_of_ne_nil]))

theorem runPass_replicate (c : Bool) (run k : Nat) : runPass c run (List.replicate k c) = runScore (run + k) := by
  induction k generalizing run with
  | zero => rfl
  | succ k ih => rw [List.replicate_succ, runPass, if_pos rfl, ih, Nat.add_right_comm, Nat.add_assoc]

/-- R166: a line of one colour is one run. -/
theorem lineRuns_replicate (c : Bool) (k : Nat) : lineRuns (List.replicate k c) = runScore k := by
  cases k with
  | zero => rfl
  | succ k => rw [List.replicate_succ, lineRuns, runPass_replicate, Nat.add_comm]

/-- A line is empty or a run followed by a line that does not start with its colour. -/
theorem line_cases (m : List Bool) :
    m = [] ∨ ∃ c k rest, m = List.replicate (k + 1) c ++ rest ∧ rest.head? ≠ some c := by
  induction m with
  | nil => exact .inl rfl
  | cons c m ih =>
    right
    obtain rfl | ⟨d, k, rest, rfl, hrest⟩ := ih
    · exact ⟨c, 0, [], rfl, by simp⟩
    · by_cases hd : d = c
      · exact ⟨c, k + 1, rest, by rw [hd, List.replicate_succ (n := k + 1), List.cons_append], hd ▸ hrest⟩
      · exact ⟨c, 0, _, rfl, by simp [hd]⟩

/-- Induction over the runs of a line (R164). -/
theorem line_induction {P : List Bool → Prop} (hnil : P [])
    (hrun : ∀ c k rest, rest.head? ≠ some c → P rest → P (List.replicate (k + 1) c ++ rest)) (m : List Bool) : P m := by
  induction hlen : m.length using Nat.strong_induction_on generalizing m with
  | _ n ih =>
    obtain rfl | ⟨c, k, rest, rfl, hrest⟩ := line_cases m
    · exact hnil
    · exact hrun c k rest hrest (ih rest.length (by simp at hlen; omega) rest rfl)

theorem lineRuns_run_append {c : Bool} {rest : List Bool} (h : rest.head? ≠ some c) (k : Nat) :
    lineRuns (List.replicate (k + 1) c ++ rest) = runScore (k + 1) + lineRuns rest := by
  rw [lineRuns_append (by simpa [List.getLast?_replicate] using h), lineRuns_replicate]

/-- The runs of a line are those of the line read from the other end. -/
theorem lineRuns_reverse (m : List Bool) : lineRuns m.reverse = lineRuns m := by
  induction m using line_induction with
  | hnil => rfl
  | hrun c k rest hrest ih =>
    have hlast : ∀ d ∈ rest.reverse.getLast?, (List.replicate (k + 1) c).head? ≠ some d := by
      rintro d hd hc
      rw [List.getLast?_reverse] at hd
      exact hrest (hd.trans (by simpa [List.replicate_succ] using hc.symm))
    rw [List.reverse_append, List.reverse_replicate, lineRuns_append hlast, ih, lineRuns_replicate,
      lineRuns_run_append hrest, Nat.add_comm]

/-! ### Maximal runs (R164) -/

theorem maximalRun_iff (m : List Bool) (a b : Nat) : maximalRun m a b = true ↔
    a ≤ b ∧ b < m.length ∧ (∀ i, a ≤ i → i ≤ b → m[i]? = m[a]?) ∧ (a = 0 ∨ m[a - 1]? ≠ m[a]?) ∧ m[b + 1]? ≠ m[b]? := by
  simp only [maximalRun, Bool.and_eq_true, decide_eq_true_eq, List.all_eq_true, List.mem_range, Bool.or_eq_true,
    Bool.not_eq_true', Bool.and_eq_false_iff, decide_eq_false_iff_not, beq_iff_eq, bne_iff_ne, and_assoc]
  refine and_congr_right fun hab => and_congr_right fun hb => and_congr_left fun _ => forall_congr' fun i => ?_
  constructor
  · exact fun h hai hib => (h (by omega)).resolve_left (by omega)
  · intro h hi
    by_cases hin : a ≤ i ∧ i ≤ b
    · exact .inr (h hin.1 hin.2)
    · exact .inl (by omega)

section
variable {c : Bool} {k : Nat} {rest : List Bool} (hrest : rest.head? ≠ some c)

theorem getElem?_run_append_left {i : Nat} (hi : i < k + 1) : (List.replicate (k + 1) c ++ rest)[i]? = some c := by
  rw [List.getElem?_append_left (by simpa using hi), List.getElem?_replicate_of_lt hi]

theorem getElem?_run_append_right (i : Nat) : (List.replicate (k + 1) c ++ rest)[k + 1 + i]? = rest[i]? := by
  rw [List.getElem?_append_right (by simp), List.length_replicate, Nat.add_sub_cancel_left]

include hrest

/-- A run that starts in the first run is the first run. -/
theorem maximalRun_first_iff {a b : Nat} (ha : a < k + 1) :
    maximalRun (List.replicate (k + 1) c ++ rest) a b = true ↔ a = 0 ∧ b = k := by
  have hafter := getElem?_run_append_right (c := c) (k := k) (rest := rest) 0
  rw [Nat.add_zero, ← List.head?_eq_getElem?] at hafter
  rw [maximalRun_iff]
  constructor
  · rintro ⟨hab, -, hall, hleft, hright⟩
    obtain rfl : a = 0 := hleft.resolve_right fun hne => hne (by
      rw [getElem?_run_append_left ha, getElem?_run_append_left (by omega)])
    have hle : ¬ k + 1 ≤ b := fun hk => hrest (by
      rw [← hafter, hall (k + 1) (Nat.zero_le _) hk, getElem?_run_append_left ha])
    have hge : ¬ b < k := fun hk => hright (by
      rw [getElem?_run_append_left (by omega), getElem?_run_append_left (by omega)])
    exact ⟨rfl, by omega⟩
  · rintro ⟨rfl, rfl⟩
    refine ⟨Nat.zero_le _, by simp; omega, fun i _ hi => ?_, .inl rfl, ?_⟩
    · rw [getElem?_run_append_left (by omega), getElem?_run_append_left (by omega)]
    · rw [hafter, getElem?_run_append_left (by omega)]
      exact hrest

/-- The runs that start behind the first run are those of the rest. -/
theorem maximalRun_rest (a b : Nat) :
    maximalRun (List.replicate (k + 1) c ++ rest) (k + 1 + a) (k + 1 + b) = maximalRun rest a b := by
  rw [Bool.eq_iff_iff, maximalRun_iff, maximalRun_iff]
  refine and_congr (by omega) (and_congr (by simp) (and_congr ?_ (and_congr ?_ ?_)))
  · simp only [getElem?_run_append_right]
    constructor
    · intro h i hai hib
      simpa only [getElem?_run_append_right] using h (k + 1 + i) (by omega) (by omega)
    · intro h i hai hib
      obtain ⟨i, rfl⟩ := Nat.exists_eq_add_of_le (show k + 1 ≤ i by omega)
      rw [getElem?_run_append_right, h i (by omega) (by omega)]
  · rw [getElem?_run_append_right]
    cases a with
    | zero =>
      rw [Nat.add_zero, Nat.add_sub_cancel, getElem?_run_append_left (by omega), ← List.head?_eq_getElem?]
      simp [hrest.symm]
    | succ a =>
      rw [show k + 1 + (a + 1) - 1 = k + 1 + a by omega, getElem?_run_append_right, Nat.add_sub_cancel]
      simp
  · rw [Nat.add_assoc (k + 1), getElem?_run_append_right, getElem?_run_append_right]

end

/-- What the run `[a, b]` adds to R166's sum, if it is one. -/
def runTerm (m : List Bool) (a b : Nat) : Nat :=
  if maximalRun m a b = true ∧ 5 ≤ b - a + 1 then 3 + (b - a + 1 - 5) else 0

theorem runPenalty_eq_sum (m : List Bool) :
    runPenalty m = ∑ a ∈ Finset.range m.length, ∑ b ∈ Finset.range m.length, runTerm m a b := rfl

theorem runTerm_eq_zero_of_lt (m : List Bool) {a b : Nat} (h : b < a) : runTerm m a b = 0 :=
  if_neg fun hrun => by have := ((maximalRun_iff m a b).1 hrun.1).1; omega

theorem runPenalty_run_append {c : Bool} {rest : List Bool} (h : rest.head? ≠ some c) (k : Nat) :
    runPenalty (List.replicate (k + 1) c ++ rest) = runScore (k + 1) + runPenalty rest := by
  have hfirst : ∀ a < k + 1, ∀ b, runTerm (List.replicate (k + 1) c ++ rest) a b =
      if a = 0 ∧ b = k then runScore (k + 1) else 0 := by
    intro a ha b
    simp only [runTerm, maximalRun_first_iff h ha]
    by_cases hab : a = 0 ∧ b = k
    · obtain ⟨rfl, rfl⟩ := hab
      simp [runScore, Config.w1From, Config.w1Base]
    · rw [if_neg (fun hrun => hab hrun.1), if_neg hab]
  have hrest : ∀ a b, runTerm (List.replicate (k + 1) c ++ rest) (k + 1 + a) (k + 1 + b) = runTerm rest a b := by
    intro a b
    rw [runTerm, maximalRun_rest h, Nat.add_sub_add_left, runTerm]
  rw [runPenalty_eq_sum, List.length_append, List.length_replicate, Finset.sum_range_add]
  congr 1
  · rw [Finset.sum_eq_single 0, Finset.sum_eq_single k]
    · rw [hfirst 0 (by omega), if_pos ⟨rfl, rfl⟩]
    · exact fun b _ hb => by rw [hfirst 0 (by omega), if_neg (fun h => hb h.2)]
    · exact fun hk => absurd (Finset.mem_range.2 (by omega)) hk
    · exact fun a ha ha0 => Finset.sum_eq_zero fun b _ => by
        rw [hfirst a (Finset.mem_range.1 ha), if_neg (fun h => ha0 h.1)]
    · exact fun h0 => absurd (Finset.mem_range.2 (by omega)) h0
  · refine Finset.sum_congr rfl fun a _ => ?_
    rw [Finset.sum_range_add, Finset.sum_eq_zero, Nat.zero_add]
    · exact Finset.sum_congr rfl fun b _ => hrest a b
    · exact fun b hb => runTerm_eq_zero_of_lt _ (by have := Finset.mem_range.1 hb; omega)

/-- R164, R166: the pass of R166 computes the sum over the maximal runs. -/
theorem lineRuns_eq_runPenalty (m : List Bool) : lineRuns m = runPenalty m := by
  induction m using line_induction with
  | hnil => rfl
  | hrun c k rest hrest ih => rw [lineRuns_run_append hrest, runPenalty_run_append hrest, ih]

/-! ### The windows of R168 -/

/-- R168: the scan counts the positions that leave the window wholly inside the line. -/
theorem countWindow_eq_windowCount {w : List Bool} (hw : w.length = 11) (m : List Bool) :
    countWindow w m = windowCount w m := by
  induction m with
  | nil => rfl
  | cons x m ih =>
    have hprefix : w.isPrefixOf (x :: m) = true ↔ (x :: m).take 11 = w := by
      rw [List.isPrefixOf_iff_prefix, List.prefix_iff_eq_take, hw, eq_comm]
    rw [countWindow, ih, windowCount, windowCount, Finset.card_filter, Finset.card_filter, List.length_cons]
    by_cases hlen : 10 ≤ m.length
    · rw [show m.length + 1 - 10 = m.length - 10 + 1 by omega, Finset.sum_range_succ', Nat.add_comm]
      simp [hprefix]
    · have hshort : ¬ w.isPrefixOf (x :: m) = true := fun h => by
        have := congrArg List.length (hprefix.1 h)
        simp only [List.length_take, List.length_cons, hw] at this
        omega
      rw [if_neg hshort, show m.length + 1 - 10 = 0 by omega, show m.length - 10 = 0 by omega]
      rfl

/-- R168: a window read from the other end is the reversed window, from a position reflected. -/
theorem windowCount_reverse (w m : List Bool) :
    windowCount w m.reverse = windowCount w.reverse m := by
  rw [windowCount, windowCount, Finset.card_filter, Finset.card_filter, List.length_reverse,
    ← Finset.sum_range_reflect]
  refine Finset.sum_congr rfl fun s hs => ?_
  have hs := Finset.mem_range.1 hs
  have hwindow : (m.reverse.drop (m.length - 10 - 1 - s)).take 11 = ((m.drop s).take 11).reverse := by
    rw [List.drop_reverse, List.take_reverse, List.length_take, List.drop_take,
      show min (m.length - (m.length - 10 - 1 - s)) m.length - 11 = s by omega,
      show m.length - (m.length - 10 - 1 - s) - s = 11 by omega]
  simp only [hwindow, List.reverse_eq_iff]

/-- R168: windows `A` and `B` are each other's reverse. -/
theorem windowA_reverse : windowA.reverse = windowB := by decide

theorem windowA_ne_windowB : windowA ≠ windowB := by decide

/-- The positions of either window, together at most one per position. -/
theorem windowCount_add_le (m : List Bool) : windowCount windowA m + windowCount windowB m ≤ m.length - 10 := by
  rw [windowCount, windowCount, ← Finset.card_union_of_disjoint]
  · exact (Finset.card_le_card (Finset.union_subset (Finset.filter_subset _ _) (Finset.filter_subset _ _))).trans_eq
      (Finset.card_range _)
  · exact Finset.disjoint_filter.2 fun s _ hA hB => windowA_ne_windowB (hA.symm.trans hB)

/-- A line of one colour holds no window of two colours. -/
theorem windowCount_replicate {w : List Bool} (hw : ∀ c, w ≠ List.replicate 11 c) (c : Bool) (n : Nat) :
    windowCount w (List.replicate n c) = 0 := by
  rw [windowCount, Finset.card_eq_zero, Finset.filter_eq_empty_iff]
  intro s hs h
  have hs := Finset.mem_range.1 hs
  rw [List.drop_replicate, List.take_replicate] at h
  refine hw c (h.symm.trans ?_)
  congr
  simp at hs
  omega

end Sys2Proof.Machine

end

section
/-! The four penalty rules (43_penalty.md) as sums over the grid's modules, said of any matrix of colours: what
R164 to R169 count, the bounds of the counts, and that they are unchanged by transposition and reflection. -/

namespace Sys2Proof.Machine

open Sys2Proof.Reference

/-! ### Sums over a matrix of colours -/

theorem list_sum_map_range (f : Nat → Nat) (n : Nat) : ((List.range n).map f).sum = ∑ i ∈ Finset.range n, f i := rfl

theorem countP_range (p : Nat → Bool) (n : Nat) :
    (List.range n).countP p = ∑ i ∈ Finset.range n, if p i = true then 1 else 0 := by
  induction n with
  | zero => rfl
  | succ n ih => rw [List.range_succ, List.countP_append, ih, Finset.sum_range_succ, List.countP_singleton]

/-- A sum over the rows of an `n × n` matrix. -/
def rowSum (n : Nat) (M : Nat → Nat → Bool) (f : List Bool → Nat) : Nat :=
  ∑ y ∈ Finset.range n, f ((List.range n).map (M y))

/-- A sum over the rows and the columns (R160). -/
def lineSum (n : Nat) (M : Nat → Nat → Bool) (f : List Bool → Nat) : Nat := rowSum n M f + rowSum n (flip M) f

/-- R167: the 2 × 2 window at `(y, x)` has one colour. -/
def oneColour (M : Nat → Nat → Bool) (y x : Nat) : Bool :=
  M y x == M y (x + 1) && M y x == M (y + 1) x && M y x == M (y + 1) (x + 1)

theorem oneColour_iff (M : Nat → Nat → Bool) (y x : Nat) :
    oneColour M y x = true ↔ M y x = M y (x + 1) ∧ M y x = M (y + 1) x ∧ M y x = M (y + 1) (x + 1) := by
  simp [oneColour, and_assoc]

/-- R167: the windows of one colour. -/
def blockSum (n : Nat) (M : Nat → Nat → Bool) : Nat :=
  ∑ y ∈ Finset.range (n - 1), ∑ x ∈ Finset.range (n - 1), if oneColour M y x = true then 1 else 0

/-- R169: the dark modules. -/
def darkSum (n : Nat) (M : Nat → Nat → Bool) : Nat :=
  ∑ y ∈ Finset.range n, ∑ x ∈ Finset.range n, if M y x = true then 1 else 0

/-! ### The rules as such sums -/

theorem overLines_eq_lineSum (g : Grid) (n : Nat) (f : List Bool → Nat) : overLines g n f = lineSum n g.module f := rfl

theorem sum_map_lines (g : Grid) (n : Nat) (f : List Bool → Nat) : ((g.lines n).map f).sum = lineSum n g.module f := by
  rw [Grid.lines, List.map_append, List.sum_append, List.map_map, List.map_map]
  rfl

theorem rule1_eq (g : Grid) (n : Nat) : rule1 g n = lineSum n g.module lineRuns := sum_map_lines g n lineRuns

theorem rule2_eq (g : Grid) (n : Nat) : rule2 g n = 3 * blockSum n g.module := by
  simp only [rule2, list_sum_map_range, countP_range]
  rfl

theorem blockCount_eq (g : Grid) (n : Nat) : blockCount g n = blockSum n g.module := by
  rw [blockCount, Finset.card_filter, Finset.sum_product]
  simp only [blockSum, oneColour_iff]

theorem lineSum_add (n : Nat) (M : Nat → Nat → Bool) (f g : List Bool → Nat) :
    lineSum n M (fun m => f m + g m) = lineSum n M f + lineSum n M g := by
  simp only [lineSum, rowSum, Finset.sum_add_distrib]
  omega

/-- R168: the windows of a line. -/
def windows (m : List Bool) : Nat := windowCount windowA m + windowCount windowB m

theorem rule3_eq (g : Grid) (n : Nat) : rule3 g n = 40 * lineSum n g.module windows := by
  have hA : countWindow windowA = windowCount windowA := funext (countWindow_eq_windowCount rfl)
  have hB : countWindow windowB = windowCount windowB := funext (countWindow_eq_windowCount rfl)
  rw [rule3, hA, hB, sum_map_lines, sum_map_lines, ← lineSum_add]
  rfl

theorem darkCount_eq (g : Grid) (n : Nat) : g.darkCount n = darkSum n g.module := by
  simp only [Grid.darkCount, Grid.row, List.count, List.countP_map, countP_range, list_sum_map_range, darkSum,
    Function.comp_apply, beq_iff_eq]

theorem darkModules_eq (g : Grid) (n : Nat) : darkModules g n = darkSum n g.module := by
  rw [darkModules, Finset.card_filter, Finset.sum_product]
  rfl

theorem rule4_eq (g : Grid) (n : Nat) : rule4 g n = balance (darkSum n g.module) (n * n) := by
  rw [rule4, darkCount_eq]

/-! ### Bounds -/

theorem sum_range_le {n c : Nat} {f : Nat → Nat} (h : ∀ i < n, f i ≤ c) : ∑ i ∈ Finset.range n, f i ≤ n * c := by
  simpa using Finset.sum_le_card_nsmul (Finset.range n) f c fun i hi => h i (Finset.mem_range.1 hi)

theorem lineSum_le {n c : Nat} (M : Nat → Nat → Bool) {f : List Bool → Nat} (h : ∀ m, m.length = n → f m ≤ c) :
    lineSum n M f ≤ 2 * n * c := by
  have hrows : ∀ M : Nat → Nat → Bool, rowSum n M f ≤ n * c := fun M => sum_range_le fun y _ => h _ (by simp)
  have h1 := hrows M
  have h2 := hrows (flip M)
  rw [lineSum, Nat.mul_assoc, Nat.two_mul]
  omega

/-- R166. -/
theorem rule1_le (g : Grid) (n : Nat) : rule1 g n ≤ 2 * n * (n - 2) := by
  rw [rule1_eq]
  exact lineSum_le _ fun m hm => hm ▸ lineRuns_le m

/-- R167. -/
theorem rule2_le (g : Grid) (n : Nat) : rule2 g n ≤ 3 * (n - 1) ^ 2 := by
  rw [rule2_eq, Nat.pow_two]
  refine Nat.mul_le_mul_left 3 (sum_range_le fun y _ => ?_)
  refine (sum_range_le (c := 1) fun x _ => ?_).trans_eq (Nat.mul_one _)
  split <;> omega

/-- R168. -/
theorem rule3_le (g : Grid) (n : Nat) : rule3 g n ≤ 40 * (2 * n) * (n - 10) := by
  rw [rule3_eq, Nat.mul_assoc]
  exact Nat.mul_le_mul_left 40 (lineSum_le _ fun m hm => hm ▸ windowCount_add_le m)

theorem darkSum_le (n : Nat) (M : Nat → Nat → Bool) : darkSum n M ≤ n * n := by
  refine sum_range_le fun y _ => ?_
  refine (sum_range_le (c := 1) fun x _ => ?_).trans_eq (Nat.mul_one n)
  split <;> omega

/-- R169: the deviation is at most 50 points, ten steps. -/
theorem balance_le {dark total : Nat} (h : dark ≤ total) : balance dark total ≤ 100 := by
  have hdev : (((100 / Config.w4Step * dark : Nat) : Int) - ((50 / Config.w4Step * total : Nat) : Int)).natAbs ≤
      total * 10 := by
    simp only [Config.w4Step]
    omega
  exact Nat.mul_le_mul_left 10 (Nat.div_le_of_le_mul hdev)

theorem balance_mod (dark total : Nat) : balance dark total % 10 = 0 := Nat.mul_mod_right 10 _

theorem rule4_le (g : Grid) (n : Nat) : rule4 g n ≤ 100 := by
  rw [rule4_eq]
  exact balance_le (darkSum_le n g.module)

/-- R170: the bounds add up to 2519698 for the largest grid. -/
theorem rules_sum_le (g : Grid) {n : Nat} (h : n ≤ 177) :
    rule1 g n + rule2 g n + rule3 g n + rule4 g n ≤ penaltyMax := by
  have h1 : rule1 g n ≤ 2 * 177 * 175 :=
    (rule1_le g n).trans (Nat.mul_le_mul (by omega) (by omega))
  have h2 : rule2 g n ≤ 3 * 176 ^ 2 :=
    (rule2_le g n).trans (Nat.mul_le_mul_left 3 (Nat.pow_le_pow_left (by omega) 2))
  have h3 : rule3 g n ≤ 40 * (2 * 177) * 167 :=
    (rule3_le g n).trans (Nat.mul_le_mul (by omega) (by omega))
  have h4 := rule4_le g n
  unfold penaltyMax
  omega

/-! ### Transposition and reflection (R32) -/

/-- Two `n × n` matrices between which the four rules see no difference. -/
structure SameCounts (n : Nat) (M N : Nat → Nat → Bool) : Prop where
  lines : ∀ f : List Bool → Nat, (∀ m, f m.reverse = f m) → lineSum n N f = lineSum n M f
  blocks : blockSum n N = blockSum n M
  dark : darkSum n N = darkSum n M

theorem SameCounts.trans {n : Nat} {M N P : Nat → Nat → Bool} (h : SameCounts n M N) (h' : SameCounts n N P) :
    SameCounts n M P :=
  ⟨fun f hf => (h'.lines f hf).trans (h.lines f hf), h'.blocks.trans h.blocks, h'.dark.trans h.dark⟩

theorem rowSum_congr {n : Nat} {M N : Nat → Nat → Bool} (h : ∀ y x, y < n → x < n → N y x = M y x)
    (f : List Bool → Nat) : rowSum n N f = rowSum n M f := by
  refine Finset.sum_congr rfl fun y hy => congrArg f (List.map_congr_left fun x hx => ?_)
  exact h y x (Finset.mem_range.1 hy) (List.mem_range.1 hx)

/-- The rules look at the `n × n` modules only. -/
theorem sameCounts_of_eq {n : Nat} {M N : Nat → Nat → Bool} (h : ∀ y x, y < n → x < n → N y x = M y x) :
    SameCounts n M N where
  lines f _ := by
    rw [lineSum, lineSum, rowSum_congr h, rowSum_congr (M := flip M) (N := flip N) fun y x hy hx => h x y hx hy]
  blocks := Finset.sum_congr rfl fun y hy => Finset.sum_congr rfl fun x hx => by
    have hy := Finset.mem_range.1 hy
    have hx := Finset.mem_range.1 hx
    rw [oneColour, h y x (by omega) (by omega), h y (x + 1) (by omega) (by omega), h (y + 1) x (by omega) (by omega),
      h (y + 1) (x + 1) (by omega) (by omega), oneColour]
  dark := Finset.sum_congr rfl fun y hy => Finset.sum_congr rfl fun x hx => by
    rw [h y x (Finset.mem_range.1 hy) (Finset.mem_range.1 hx)]

theorem sameCounts_transpose (n : Nat) (M : Nat → Nat → Bool) : SameCounts n M (flip M) where
  lines f _ := Nat.add_comm _ _
  blocks := by
    rw [blockSum, Finset.sum_comm]
    refine Finset.sum_congr rfl fun y _ => Finset.sum_congr rfl fun x _ => ?_
    simp only [oneColour_iff, flip, and_left_comm]
  dark := Finset.sum_comm

/-- Left to right: each row is reversed, and the columns change places. -/
theorem sameCounts_mirror (n : Nat) (M : Nat → Nat → Bool) : SameCounts n M (fun y x => M y (n - 1 - x)) where
  lines f hf := by
    have hrow : ∀ y, (List.range n).map (fun x => M y (n - 1 - x)) = ((List.range n).map (M y)).reverse := fun y =>
      List.ext_getElem (by simp) fun i _ _ => by simp
    refine congrArg₂ (· + ·) ?_ ?_
    · simp only [rowSum, hrow, hf]
    · exact Finset.sum_range_reflect (fun x => f ((List.range n).map (flip M x))) n
  blocks := by
    refine Finset.sum_congr rfl fun y _ => ?_
    rw [← Finset.sum_range_reflect]
    refine Finset.sum_congr rfl fun x hx => ?_
    have hx := Finset.mem_range.1 hx
    simp only [oneColour_iff, show n - 1 - (n - 1 - 1 - x) = x + 1 by omega,
      show n - 1 - (n - 1 - 1 - x + 1) = x by omega]
    refine if_congr ?_ rfl rfl
    constructor <;> exact fun ⟨hx, hy, hxy⟩ => ⟨hx.symm, hx.symm.trans hxy, hx.symm.trans hy⟩
  dark := Finset.sum_congr rfl fun y _ => Finset.sum_range_reflect (fun x => if M y x = true then 1 else 0) n

/-- Top to bottom: the transpose of the mirror image of the transpose. -/
theorem sameCounts_flip (n : Nat) (M : Nat → Nat → Bool) : SameCounts n M (fun y x => M (n - 1 - y) x) :=
  ((sameCounts_transpose n M).trans (sameCounts_mirror n (flip M))).trans (sameCounts_transpose n _)

theorem SameCounts.rules {g g' : Grid} {n : Nat} (h : SameCounts n g.module g'.module) :
    rule1 g' n = rule1 g n ∧ rule2 g' n = rule2 g n ∧ rule3 g' n = rule3 g n ∧ rule4 g' n = rule4 g n := by
  have hwindows : ∀ m : List Bool, windows m.reverse = windows m := fun m => by
    have hB : windowB.reverse = windowA := by decide
    rw [windows, windowCount_reverse, windowCount_reverse, windowA_reverse, hB, Nat.add_comm, windows]
  refine ⟨?_, ?_, ?_, ?_⟩
  · rw [rule1_eq, rule1_eq, h.lines lineRuns lineRuns_reverse]
  · rw [rule2_eq, rule2_eq, h.blocks]
  · rw [rule3_eq, rule3_eq, h.lines windows hwindows]
  · rw [rule4_eq, rule4_eq, h.dark]

/-! ### One colour -/

theorem lineSum_const {n : Nat} {c : Bool} {M : Nat → Nat → Bool} (h : ∀ y x, y < n → x < n → M y x = c)
    (f : List Bool → Nat) : lineSum n M f = 2 * n * f (List.replicate n c) := by
  have hrows : ∀ N : Nat → Nat → Bool, (∀ y x, y < n → x < n → N y x = c) →
      rowSum n N f = n * f (List.replicate n c) := by
    intro N hN
    rw [rowSum_congr (M := fun _ _ => c) hN]
    simp [rowSum, List.map_const']
  rw [lineSum, hrows M h, hrows (flip M) fun y x hy hx => h x y hx hy]
  ring

theorem blockSum_const {n : Nat} {c : Bool} {M : Nat → Nat → Bool} (h : ∀ y x, y < n → x < n → M y x = c) :
    blockSum n M = (n - 1) ^ 2 := by
  rw [(sameCounts_of_eq (M := fun _ _ => c) h).blocks]
  simp [blockSum, oneColour, Nat.pow_two]

theorem darkSum_const {n : Nat} {c : Bool} {M : Nat → Nat → Bool} (h : ∀ y x, y < n → x < n → M y x = c) :
    darkSum n M = if c = true then n * n else 0 := by
  rw [(sameCounts_of_eq (M := fun _ _ => c) h).dark]
  cases c <;> simp [darkSum]

theorem runScore_of_le {l : Nat} (h : 5 ≤ l) : runScore l = l - 2 := by
  unfold runScore Config.w1From Config.w1Base
  rw [if_pos h]
  omega

theorem windows_replicate (c : Bool) (n : Nat) : windows (List.replicate n c) = 0 := by
  rw [windows, windowCount_replicate (by decide), windowCount_replicate (by decide)]

/-- R169: a grid of one colour deviates by fifty points. -/
theorem balance_const (c : Bool) {total : Nat} (h : 0 < total) :
    balance (if c = true then total else 0) total = 100 := by
  have hdev : (((100 / Config.w4Step * (if c = true then total else 0) : Nat) : Int) -
      ((50 / Config.w4Step * total : Nat) : Int)).natAbs = 10 * total := by
    cases c <;> simp [Config.w4Step] <;> omega
  rw [balance, hdev, Nat.mul_div_cancel _ h]
  rfl

end Sys2Proof.Machine

end

section
/-! The commands of the penalty accumulator and of the selector (43_penalty.md) on a grid that is ready: what each
completes with, and the obligations on them. -/

namespace Sys2Proof.Machine

open Sys2Proof.Reference

/-! ### A grid that is ready -/

namespace State.GridReady

variable {s : State} (h : s.GridReady)
include h

theorem exec_gridWr {row col : Byte} (hrow : row.toNat < s.gridN.toNat) (hcol : col.toNat < s.gridN.toNat)
    (v : BitVec 1) : exec (.gridWr row col v) s = .next (effect s (.gridWr row col v)) :=
  exec_of_completes s _ ⟨h.running, h.valid, gridIndexOk_iff.2 ⟨hrow, hcol⟩, by have := h.sizeMax; omega⟩

theorem exec_gridRd {row col : Byte} (hrow : row.toNat < s.gridN.toNat) (hcol : col.toNat < s.gridN.toNat) :
    exec (.gridRd row col) s = .next (effect s (.gridRd row col)) :=
  exec_of_completes s _ ⟨h.running, h.valid, gridIndexOk_iff.2 ⟨hrow, hcol⟩, by have := h.sizeMax; omega⟩

theorem exec_penScore : exec .penScore s = .next (effect s .penScore) := by
  refine exec_of_completes s _ ⟨h.running, h.valid, h.sizeMax, fun h0 => ?_⟩
  have hpos := h.sizePos
  simp [h0] at hpos

theorem of_gridWr (row col : Byte) (v : BitVec 1) : (effect s (.gridWr row col v)).GridReady :=
  ⟨h.running, h.valid, h.sizePos, h.sizeMax⟩

end State.GridReady

theorem State.Inv.gridReady {s : State} (h : s.Inv) (hs : s.faulted = false) (hgrid : s.gridValid = true) :
    s.GridReady := by
  obtain ⟨hpos, hmax⟩ := h.gridBounds hgrid
  exact ⟨hs, hgrid, hpos, hmax⟩

/-! ### Configuration and access -/

/-- Settles O37: every module of the cleared grid is light. -/
theorem gridCfgClearsTheGrid : Obligations.GridCfgClearsTheGrid :=
  fun n s hs hpos hmax =>
    ⟨_, exec_of_completes s (.gridCfg n) ⟨hs, gridCfgOk_iff.2 ⟨hpos, hmax⟩⟩, Grid.module_light, rfl⟩

/-- R162: the grid after a write of one module. -/
theorem State.GridReady.module_gridWr {s : State} (h : s.GridReady) {row col : Byte} (hrow : row.toNat < s.gridN.toNat)
    (hcol : col.toNat < s.gridN.toNat) (v : BitVec 1) (y x : Nat) :
    (effect s (.gridWr row col v)).grid.module y x =
      if y = row.toNat ∧ x = col.toNat then moduleOf v else s.grid.module y x := by
  have hmax := h.sizeMax
  exact Grid.module_put s.grid row.toNat col.toNat (moduleOf v) y x (by omega) (by omega)

/-- Settles O38: a read of the grid after the one write. -/
theorem gridWrWritesOneModule : Obligations.GridWrWritesOneModule :=
  fun _ _ v _ h hrow hcol => ⟨_, h.exec_gridWr hrow hcol v, h.module_gridWr hrow hcol v, rfl⟩

/-- Settles O30: the effect of each of the five commands is to answer the element. -/
theorem readCommandsAnswerOneElement : Obligations.ReadCommandsAnswerOneElement := by
  refine ⟨fun idx s h hidx => h.exec_rsRd hidx, fun j s h hsyn hj => h.exec_rsRdsyn hsyn hj,
    fun i s h hi => h.exec_rsRdgen hi, fun row col s h hrow hcol => ?_, fun s hs hpen => ?_⟩
  · rw [h.exec_gridRd hrow hcol, effect, flagAt_zero]
    rfl
  · have hread : ∀ sel, penRdOk sel = true → exec (.penRd sel) s = .next (effect s (.penRd sel)) :=
      fun sel hsel => exec_of_completes s _ ⟨hs, hsel, hpen⟩
    exact ⟨hread 0 (by decide), hread 1 (by decide), hread 2 (by decide), hread 3 (by decide), hread 4 (by decide)⟩

/-! ### Scoring -/

theorem toNat_ofNat_of_le {v : Nat} (h : v ≤ penaltyMax) : (BitVec.ofNat 32 v).toNat = v := by
  unfold penaltyMax at h
  rw [BitVec.toNat_ofNat, Nat.mod_eq_of_lt (by omega)]

/-- R165, R170: no score and no sum wraps. -/
theorem storeScores_toNat {s : State} (h : s.gridN.toNat ≤ 177) :
    s.storeScores.pen1.toNat = rule1 s.grid s.gridN.toNat ∧ s.storeScores.pen2.toNat = rule2 s.grid s.gridN.toNat ∧
    s.storeScores.pen3.toNat = rule3 s.grid s.gridN.toNat ∧ s.storeScores.pen4.toNat = rule4 s.grid s.gridN.toNat ∧
    s.storeScores.penTotal.toNat = s.storeScores.pen1.toNat + s.storeScores.pen2.toNat + s.storeScores.pen3.toNat +
      s.storeScores.pen4.toNat := by
  have hsum := rules_sum_le s.grid h
  have h1 : s.storeScores.pen1.toNat = rule1 s.grid s.gridN.toNat := toNat_ofNat_of_le (by omega)
  have h2 : s.storeScores.pen2.toNat = rule2 s.grid s.gridN.toNat := toNat_ofNat_of_le (by omega)
  have h3 : s.storeScores.pen3.toNat = rule3 s.grid s.gridN.toNat := toNat_ofNat_of_le (by omega)
  have h4 : s.storeScores.pen4.toNat = rule4 s.grid s.gridN.toNat := toNat_ofNat_of_le (by omega)
  refine ⟨h1, h2, h3, h4, ?_⟩
  unfold penaltyMax at hsum
  rw [storeScores_penTotal]
  simp only [BitVec.toNat_add, h1, h2, h3, h4]
  omega

/-- R170: the total as a number. -/
theorem storeScores_penTotal_toNat {s : State} (h : s.gridN.toNat ≤ 177) : s.storeScores.penTotal.toNat =
    rule1 s.grid s.gridN.toNat + rule2 s.grid s.gridN.toNat + rule3 s.grid s.gridN.toNat +
      rule4 s.grid s.gridN.toNat := by
  obtain ⟨h1, h2, h3, h4, htotal⟩ := storeScores_toNat h
  rw [htotal, h1, h2, h3, h4]

/-- Settles O39: the pass of R166 sums over the maximal runs of each line. -/
theorem penaltyOneIsTheSumOverMaximalRuns : Obligations.PenaltyOneIsTheSumOverMaximalRuns := by
  intro s h
  obtain ⟨h1, -⟩ := storeScores_toNat h.sizeMax
  refine ⟨_, h.exec_penScore, h1.trans ?_⟩
  rw [rule1_eq, funext lineRuns_eq_runPenalty]
  rfl

/-- Settles O40: the windows counted row by row. -/
theorem penaltyTwoCountsTheBlocks : Obligations.PenaltyTwoCountsTheBlocks := by
  intro s h
  obtain ⟨-, h2, -⟩ := storeScores_toNat h.sizeMax
  refine ⟨_, h.exec_penScore, h2.trans ?_⟩
  rw [rule2_eq, blockCount_eq]

/-- Settles O41: the scan of each line counts its positions. -/
theorem penaltyThreeCountsTheWindows : Obligations.PenaltyThreeCountsTheWindows := by
  intro s h
  obtain ⟨-, -, h3, -⟩ := storeScores_toNat h.sizeMax
  refine ⟨_, h.exec_penScore, h3.trans ?_⟩
  rw [rule3_eq, overLines_eq_lineSum, overLines_eq_lineSum, ← lineSum_add]
  rfl

/-- R169: the integer form of the formula, which clears the fractions. -/
theorem balance_eq_floor (dark : Nat) {total : Nat} (h : 0 < total) :
    (balance dark total : ℤ) = 10 * ⌊|100 * (dark : ℚ) / total - 50| / 5⌋ := by
  have hpos : (0 : ℚ) < total := by exact_mod_cast h
  have hdev : |100 * (dark : ℚ) / total - 50| / 5 =
      ((20 * (dark : ℤ) - 10 * (total : ℤ)).natAbs : ℚ) / (total : ℚ) := by
    have hfraction : 100 * (dark : ℚ) / total - 50 = 5 * ((20 * dark - 10 * total) / total) := by
      field_simp
      ring
    rw [hfraction, abs_mul, abs_div, abs_of_pos hpos, abs_of_pos (by norm_num : (0 : ℚ) < 5),
      mul_div_cancel_left₀ _ (by norm_num), Nat.cast_natAbs]
    push_cast
    rfl
  rw [hdev, Rat.floor_natCast_div_natCast]
  rfl

/-- Settles O42: clearing the fractions leaves the same floor. -/
theorem penaltyFourIsTheExactBalance : Obligations.PenaltyFourIsTheExactBalance := by
  intro s h
  obtain ⟨-, -, -, h4, -⟩ := storeScores_toNat h.sizeMax
  refine ⟨_, h.exec_penScore, (congrArg Int.ofNat h4).trans ?_⟩
  have hpos := h.sizePos
  rw [rule4_eq, darkModules_eq, ← Nat.cast_mul]
  exact balance_eq_floor _ (Nat.mul_pos hpos hpos)

/-- Settles O43: the sum does not wrap, and scoring writes the penalty registers only. -/
theorem penScoreStoresTheTotal : Obligations.PenScoreStoresTheTotal := by
  intro s h
  obtain ⟨-, -, -, -, htotal⟩ := storeScores_toNat h.sizeMax
  exact ⟨_, h.exec_penScore, htotal, rfl⟩

/-- Settles O44: the bound of each rule. -/
theorem penaltiesAreBounded : Obligations.PenaltiesAreBounded := by
  intro s h
  obtain ⟨h1, h2, h3, h4, -⟩ := storeScores_toNat h.sizeMax
  refine ⟨_, h.exec_penScore, h1.trans_le (rule1_le _ _), h2.trans_le (rule2_le _ _), h3.trans_le (rule3_le _ _),
    h4.trans_le (rule4_le _ _), ?_, (storeScores_penTotal_toNat h.sizeMax).trans_le (rules_sum_le _ h.sizeMax)⟩
  exact (congrArg (· % 10) h4).trans (balance_mod _ _)

/-- Settles O45: each line is one run, every window of two by two counts, no window of two colours stands
anywhere, and the deviation is the whole fifty points. -/
theorem uniformGridScoresItsFormula : Obligations.UniformGridScoresItsFormula := by
  intro s c h hsize hcolour
  refine ⟨_, h.exec_penScore, (storeScores_penTotal_toNat h.sizeMax).trans ?_⟩
  rw [rule1_eq, rule2_eq, rule3_eq, rule4_eq, lineSum_const hcolour, lineSum_const hcolour, blockSum_const hcolour,
    darkSum_const hcolour, lineRuns_replicate, runScore_of_le hsize, windows_replicate, Nat.mul_zero,
    balance_const c (Nat.mul_pos h.sizePos h.sizePos)]

/-- Settles O46: each image has the counts of the grid. -/
theorem penaltyIsUnchangedBySymmetries : Obligations.PenaltyIsUnchangedBySymmetries := by
  intro a b ha hb hn himage
  have hcounts : SameCounts a.gridN.toNat a.grid.module b.grid.module := by
    rcases himage with htranspose | hmirror | hflip
    · exact (sameCounts_transpose _ _).trans (sameCounts_of_eq htranspose)
    · exact (sameCounts_mirror _ _).trans (sameCounts_of_eq hmirror)
    · exact (sameCounts_flip _ _).trans (sameCounts_of_eq hflip)
  obtain ⟨h1, h2, h3, h4⟩ := hcounts.rules
  have hscores : b.storeScores.pen1 = a.storeScores.pen1 ∧ b.storeScores.pen2 = a.storeScores.pen2 ∧
      b.storeScores.pen3 = a.storeScores.pen3 ∧ b.storeScores.pen4 = a.storeScores.pen4 := by
    simp only [storeScores_pen1, storeScores_pen2, storeScores_pen3, storeScores_pen4, hn, h1, h2, h3, h4, and_self]
  obtain ⟨hp1, hp2, hp3, hp4⟩ := hscores
  refine ⟨_, _, ha.exec_penScore, hb.exec_penScore, hp1, hp2, hp3, hp4, ?_⟩
  have htotal : b.storeScores.penTotal = a.storeScores.penTotal := by
    rw [storeScores_penTotal, storeScores_penTotal, hp1, hp2, hp3, hp4]
  exact htotal

/-! ### The selector -/

/-- R174: the fields of `SEL_RD`'s answer; a mask index has no bits from 27 up. -/
theorem getLsbD_bestWord (s : State) {j : Nat} (hj : j < 31) :
    s.bestWord.getLsbD j = if 24 ≤ j then s.bestMask.getLsbD (j - 24) else s.bestPen.getLsbD j := by
  have hflag : (flagAt s.bestValid 31).getLsbD j = false := by simp [getLsbD_flagAt, hj.ne]
  simp only [State.bestWord, BitVec.getLsbD_or, hflag, BitVec.getLsbD_shiftLeft, BitVec.truncate_eq_setWidth,
    BitVec.getLsbD_setWidth, BitVec.getLsbD_extractLsb']
  split
  next h => simp [show j < 32 by omega, show j - 24 < 32 by omega, show ¬ j < 24 by omega]
  next h => simp [show j < 32 by omega, show j < 24 by omega]

/-- Settles O47: the fields of the answer. -/
theorem selectorIsClearedAndRead : Obligations.SelectorIsClearedAndRead := by
  intro s hs
  refine ⟨exec_of_completes s .selClr hs, s.bestWord, exec_of_completes s .selRd hs, by simp [State.bestWord],
    ?_, ?_, ?_⟩ <;>
    refine BitVec.eq_of_getLsbD_eq fun j hj => ?_ <;>
    rw [BitVec.getLsbD_extractLsb', getLsbD_bestWord s (by omega)]
  · rw [if_pos (by omega), BitVec.getLsbD_of_ge _ _ (by omega)]
    simp
  · simp [hj]
  · simp [hj]

/-- Settles O48: R173's condition, and its two cases. -/
theorem selUpdTakesTheBetterCandidate : Obligations.SelUpdTakesTheBetterCandidate := by
  intro m s hs hpen
  have hcond : s.improves m = true ↔ s.bestValid = false ∨ s.penTotal.toNat < s.bestPen.toNat ∨
      (s.penTotal = s.bestPen ∧ m.toNat < s.bestMask.toNat) := by
    rw [improves_iff, BitVec.toNat_inj]
  rw [← hcond, exec_of_completes s (.selUpd m) ⟨hs, hpen⟩, effect]
  constructor
  · intro h
    rw [if_pos h]
    rfl
  · intro h
    rw [if_neg h]
    rfl

end Sys2Proof.Machine

end

section
/-! The invariant of the reachable states (10_state.md rule R36): it holds at reset and every word keeps it; from its
states no word stops the model, and a response of all ones means a fault; the obligations on the whole machine. -/

namespace Sys2Proof.Machine

open Sys2Proof.Reference

/-! ### The invariant, update by update -/

/-- R37: at reset. -/
theorem inv_reset : State.reset.Inv where
  cwForm := rfl
  genForm := rfl
  synForm := rfl
  running _ := ⟨rfl, rfl⟩
  faultedCode h := Bool.noConfusion h
  rsUnconfigured _ := ⟨rfl, rfl, rfl, rfl, rfl, rfl⟩
  rsBounds h := Bool.noConfusion h
  generator h := Bool.noConfusion h
  cwAbove h := Bool.noConfusion h
  synAbove _ _ := rfl
  synConfigured h := Bool.noConfusion h
  synValues h := Bool.noConfusion h
  synZeroMeans := ⟨fun h => Bool.noConfusion h, fun h => Bool.noConfusion h.1⟩
  gridUnconfigured _ := ⟨rfl, rfl, rfl, rfl, rfl, rfl, rfl, rfl⟩
  gridBounds h := Bool.noConfusion h
  gridOutside y x _ := Grid.module_light y x
  penConfigured h := Bool.noConfusion h
  penValues h := Bool.noConfusion h
  penBounds := ⟨Nat.zero_le _, Nat.zero_le _, Nat.zero_le _, Nat.zero_le _, Nat.zero_le _⟩
  bestEmpty _ := ⟨rfl, rfl⟩
  bestBound := Nat.zero_le _

/-- Settles O52: every array is empty, every module light and every flag clear. -/
theorem resetMeetsTheInvariant : Obligations.ResetMeetsTheInvariant := inv_reset

namespace State.Inv

/-- The invariant says nothing of pending port events. -/
theorem withPort {s : State} (h : s.Inv) (rest : List PortEvent) : (s.withPort rest).Inv := { h with }

theorem hardReset (s : State) : s.hardReset.Inv := hardReset_eq s ▸ inv_reset.withPort s.port

variable {s : State} (h : s.Inv)
include h

theorem penTotal_le : s.penTotal.toNat ≤ penaltyMax := by
  obtain ⟨-, -, -, -, htotal⟩ := h.penBounds
  exact htotal

/-- The invariant says nothing of the response. -/
theorem setResp (v : Word) : (s.setResp v).Inv := { h with }

/-- R36 (a): fault entry stores a cause's code. -/
theorem raise (c : Cause) (w : Word) : (s.raise c w).Inv :=
  { h with
    running := fun hs => Bool.noConfusion hs
    faultedCode := fun _ => c.code_range }

/-- R36 (c): a new configuration has its generator polynomial, an empty buffer and no syndromes. -/
theorem configureRs {k r : Byte} (hok : rsCfgOk k r = true) : (s.configureRs k r).Inv :=
  { h with
    cwForm := rfl
    genForm := Memory.wf_writeFrom _ 0 (by have := rsCfgOk_iff.1 hok; simp; omega) rfl
    synForm := rfl
    rsUnconfigured := fun hrs => Bool.noConfusion hrs
    rsBounds := fun _ => rsCfgOk_iff.1 hok
    generator := fun _ => read_configureRs_gen s k r
    cwAbove := fun _ _ _ => rfl
    synAbove := fun _ _ => rfl
    synConfigured := fun _ => rfl
    synValues := fun hsyn => Bool.noConfusion hsyn
    synZeroMeans := ⟨fun hz => Bool.noConfusion hz, fun hz => Bool.noConfusion hz.1⟩ }

/-- R36 (c), (d): bytes written within the codeword keep the form of the buffer and make the syndromes stale. -/
theorem writeBuffer {cw : Memory} (hrs : s.rsValid = true) (hform : Memory.wf 255 cw = true)
    (habove : ∀ i, s.rsK.toNat + s.rsR.toNat ≤ i → cw.read i = s.cw.read i) :
    ({ s with cw := cw } : State).staleSyndromes.Inv :=
  { h with
    cwForm := hform
    rsUnconfigured := fun hrs' => absurd (hrs.symm.trans hrs') (by decide)
    cwAbove := fun _ i hi => (habove i hi).trans (h.cwAbove hrs i hi)
    synConfigured := fun hsyn => Bool.noConfusion hsyn
    synValues := fun hsyn => Bool.noConfusion hsyn
    synZeroMeans := ⟨fun hz => Bool.noConfusion hz, fun hz => Bool.noConfusion hz.1⟩ }

/-- R36 (d): the syndromes stored are those of the codeword. -/
theorem storeSyndromes (hrs : s.rsValid = true) : s.storeSyndromes.Inv :=
  { h with
    synForm := Memory.wf_writeFrom _ 0 (by have := h.rsBounds hrs; simp [syndromes]; omega) h.synForm
    rsUnconfigured := fun hrs' => absurd (hrs.symm.trans hrs') (by decide)
    synAbove := fun j hj => (read_storeSyndromes s j).trans ((if_neg (by simpa using hj)).trans (h.synAbove j hj))
    synConfigured := fun _ => hrs
    synValues := fun _ j hj => (read_storeSyndromes s j).trans (if_pos hj)
    synZeroMeans := (synZero_storeSyndromes s).trans (by simp) }

/-- R32, R33: a new grid is light and not scored. -/
theorem configureGrid {n : Byte} (hok : gridCfgOk n = true) : (s.configureGrid n).Inv :=
  { h with
    gridUnconfigured := fun hgrid => Bool.noConfusion hgrid
    gridBounds := fun _ => gridCfgOk_iff.1 hok
    gridOutside := fun y x _ => Grid.module_light y x
    penConfigured := fun _ => rfl
    penValues := fun hpen => Bool.noConfusion hpen
    penBounds := ⟨Nat.zero_le _, Nat.zero_le _, Nat.zero_le _, Nat.zero_le _, Nat.zero_le _⟩ }

/-- R32, R36 (f): a module within the grid leaves those outside light, and the scores stale. -/
theorem writeModule {row col : Byte} (hgrid : s.gridValid = true) (hok : s.gridIndexOk row col = true) (v : Bool) :
    (s.writeModule row.toNat col.toNat v).stalePenalty.Inv := by
  obtain ⟨hrow, hcol⟩ := gridIndexOk_iff.1 hok
  obtain ⟨-, hmax⟩ := h.gridBounds hgrid
  exact { h with
    gridUnconfigured := fun hgrid' => absurd (hgrid.symm.trans hgrid') (by decide)
    gridOutside := fun y x hout => by
      refine (Grid.module_put s.grid _ _ v y x (by omega) (by omega)).trans ((if_neg ?_).trans (h.gridOutside y x hout))
      simp only [stalePenalty_gridN, writeModule_gridN] at hout
      omega
    penConfigured := fun hpen => Bool.noConfusion hpen
    penValues := fun hpen => Bool.noConfusion hpen }

/-- R36 (f): the scores stored are those of the grid. -/
theorem storeScores (hgrid : s.gridValid = true) (hsize : s.gridN.toNat ≤ 177) : s.storeScores.Inv := by
  have hsum := rules_sum_le s.grid hsize
  obtain ⟨h1, h2, h3, h4, htotal⟩ := storeScores_toNat hsize
  exact { h with
    gridUnconfigured := fun hgrid' => absurd (hgrid.symm.trans hgrid') (by decide)
    penConfigured := fun _ => hgrid
    penValues := fun _ => ⟨h1, h2, h3, h4, htotal⟩
    penBounds := by omega }

theorem clearBest : s.clearBest.Inv :=
  { h with
    bestEmpty := fun _ => ⟨rfl, rfl⟩
    bestBound := Nat.zero_le _ }

theorem takeBest (m : BitVec 3) : (s.takeBest m).Inv :=
  { h with
    bestEmpty := fun hbest => Bool.noConfusion hbest
    bestBound := h.penTotal_le }

/-! ### Every word keeps it -/

/-- A command that completes keeps the invariant. -/
theorem afterEffect {i : Instr} (hc : completes s i) : (effect s i).Inv := by
  cases i with
  | rsCfg k r =>
    obtain ⟨-, hok⟩ := hc
    exact (h.configureRs hok).setResp 0
  | rsWr idx byte =>
    obtain ⟨-, hrs, hidx, hsize⟩ := hc
    refine (h.writeBuffer hrs (Memory.wf_write _ byte hsize h.cwForm) fun i hi => ?_).setResp 0
    have hidx := cwIndexOk_iff.1 hidx
    rw [Memory.read_write, if_neg (by omega)]
  | rsEnc =>
    obtain ⟨-, hrs, hlen, -⟩ := hc
    have hparity : s.rsK.toNat + (parityBytes s.genTail s.dataBytes).length ≤ 255 := by
      rwa [parityBytes_length, genTail_length]
    refine (h.writeBuffer hrs (Memory.wf_writeFrom _ _ hparity h.cwForm) fun i hi => ?_).setResp 0
    exact (read_storeParity s i).trans (if_neg (by omega))
  | rsSynd =>
    obtain ⟨-, hrs, -⟩ := hc
    exact (h.storeSyndromes hrs).setResp _
  | gridCfg n =>
    obtain ⟨-, hok⟩ := hc
    exact (h.configureGrid hok).setResp 0
  | gridWr row col v =>
    obtain ⟨-, hgrid, hok, -⟩ := hc
    exact (h.writeModule hgrid hok _).setResp 0
  | penScore =>
    obtain ⟨-, hgrid, hsize, -⟩ := hc
    exact (h.storeScores hgrid hsize).setResp _
  | selClr => exact h.clearBest.setResp 0
  | selUpd m =>
    rw [effect]
    split
    · exact (h.takeBest m).setResp 1
    · exact h.setResp 0
  | sreset => exact hardReset s
  | _ => exact h.setResp _

theorem afterWord {t : State} {w : Word} (hw : execWord w s = .next t) : t.Inv := by
  rcases execWord_cases hw with ⟨-, rfl⟩ | ⟨-, c, rfl⟩ | ⟨i, -, hc, rfl⟩
  · exact h.setResp _
  · exact h.raise c w
  · exact h.afterEffect hc

end State.Inv

/-- Settles O53: a step is nothing, a reset or a word, and each keeps the invariant. -/
theorem stepKeepsTheInvariant : Obligations.StepKeepsTheInvariant := by
  intro s t h hstep
  cases hport : s.port with
  | nil =>
    obtain rfl := Host.Outcome.next.inj ((stepRunsTheOldestPortEvent.1 s hport).symm.trans hstep)
    exact h
  | cons e rest =>
    rw [step_cons hport] at hstep
    cases e with
    | command w => exact (h.withPort rest).afterWord hstep
    | reset =>
      obtain rfl := Host.Outcome.next.inj hstep
      exact State.Inv.hardReset _

/-! ### No word stops the model -/

/-- The outcome is a next state. -/
def Answers (o : Outcome) : Prop := ∃ t, o = .next t

theorem answers_next (t : State) : Answers (.next t) := ⟨t, rfl⟩

theorem answers_whenRunning {s : State} {k : Outcome} (hk : s.faulted = false → Answers k) :
    Answers (whenRunning s k) := by
  cases hs : s.faulted
  · rw [whenRunning_running s k hs]
    exact hk hs
  · rw [whenRunning_faulted s k hs]
    exact answers_next _

theorem answers_require {p : Prop} [Decidable p] {c : Cause} {i : Instr} {s : State} {k : Outcome}
    (hk : p → Answers k) : Answers (require p c i s k) := by
  by_cases hp : p
  · rw [require_pass p c i s k hp]
    exact hk hp
  · rw [require_fail p c i s k hp]
    exact answers_next _

theorem answers_needElements {a : ArrayName} {n : Nat} {k : Outcome} (hn : n ≤ a.size) (hk : Answers k) :
    Answers (needElements a n k) := by
  rwa [needElements_pass a n k hn]

/-- R50: within the bounds of the invariant every element a command reaches exists. -/
theorem State.Inv.answers_exec {s : State} (h : s.Inv) (i : Instr) : Answers (exec i s) := by
  cases i with
  | statRd => exact answers_next _
  | idRd => exact answers_next _
  | fcmdRd => exact answers_next _
  | sreset => exact answers_next _
  | gfDiv a b => exact answers_whenRunning fun _ => answers_require fun _ => answers_next _
  | gfLog a => exact answers_whenRunning fun _ => answers_require fun _ => answers_next _
  | rsCfg k r => exact answers_whenRunning fun _ => answers_require fun _ => answers_next _
  | gridCfg n => exact answers_whenRunning fun _ => answers_require fun _ => answers_next _
  | selUpd m => exact answers_whenRunning fun _ => answers_require fun _ => answers_next _
  | penRd sel => exact answers_whenRunning fun _ => answers_require fun _ => answers_require fun _ => answers_next _
  | rsWr idx byte =>
    refine answers_whenRunning fun _ => answers_require fun hrs => answers_require fun hidx =>
      answers_needElements ?_ (answers_next _)
    obtain ⟨-, -, hlen⟩ := h.rsBounds hrs
    exact (Nat.succ_le_of_lt (cwIndexOk_iff.1 hidx)).trans hlen
  | rsRd idx =>
    refine answers_whenRunning fun _ => answers_require fun hrs => answers_require fun hidx =>
      answers_needElements ?_ (answers_next _)
    obtain ⟨-, -, hlen⟩ := h.rsBounds hrs
    exact (Nat.succ_le_of_lt (cwIndexOk_iff.1 hidx)).trans hlen
  | rsEnc =>
    refine answers_whenRunning fun _ => answers_require fun hrs => ?_
    obtain ⟨-, hmax, hlen⟩ := h.rsBounds hrs
    exact answers_needElements hlen (answers_needElements (Nat.succ_le_succ hmax) (answers_next _))
  | rsSynd =>
    refine answers_whenRunning fun _ => answers_require fun hrs => ?_
    obtain ⟨-, hmax, hlen⟩ := h.rsBounds hrs
    exact answers_needElements hlen (answers_needElements hmax (answers_next _))
  | rsRdsyn j =>
    refine answers_whenRunning fun _ => answers_require fun hrs => answers_require fun _ => answers_require fun hj =>
      answers_needElements ?_ (answers_next _)
    obtain ⟨-, hmax, -⟩ := h.rsBounds hrs
    exact (Nat.succ_le_of_lt (synIndexOk_iff.1 hj)).trans hmax
  | rsRdgen j =>
    refine answers_whenRunning fun _ => answers_require fun hrs => answers_require fun hj =>
      answers_needElements ?_ (answers_next _)
    obtain ⟨-, hmax, -⟩ := h.rsBounds hrs
    exact Nat.succ_le_succ ((genIndexOk_iff.1 hj).trans hmax)
  | gridWr row col v =>
    refine answers_whenRunning fun _ => answers_require fun hgrid => answers_require fun hok =>
      answers_needElements ?_ (answers_next _)
    obtain ⟨hrow, hcol⟩ := gridIndexOk_iff.1 hok
    exact (Nat.succ_le_of_lt (max_lt hrow hcol)).trans (h.gridBounds hgrid).2
  | gridRd row col =>
    refine answers_whenRunning fun _ => answers_require fun hgrid => answers_require fun hok =>
      answers_needElements ?_ (answers_next _)
    obtain ⟨hrow, hcol⟩ := gridIndexOk_iff.1 hok
    exact (Nat.succ_le_of_lt (max_lt hrow hcol)).trans (h.gridBounds hgrid).2
  | penScore =>
    refine answers_whenRunning fun hs => answers_require fun hgrid => ?_
    have hready := h.gridReady hs hgrid
    refine answers_needElements hready.sizeMax ?_
    rw [if_neg fun h0 => by simpa [h0] using hready.sizePos]
    exact answers_next _
  | _ => exact answers_whenRunning fun _ => answers_next _

theorem State.Inv.answers_execWord {s : State} (h : s.Inv) (w : Word) : Answers (execWord w s) := by
  cases hw : decode w with
  | error e =>
    rw [execWord_of_not_decode (by simp [hw]), illegalWord_next]
    exact answers_next _
  | ok i =>
    rw [execWord_of_decode hw]
    exact h.answers_exec i

/-- Settles O54: a step is nothing, a reset or a word. -/
theorem invariantStatesNeverStop : Obligations.InvariantStatesNeverStop := by
  intro s h
  refine ⟨?_, h.answers_execWord⟩
  cases hport : s.port with
  | nil => exact ⟨s, stepRunsTheOldestPortEvent.1 s hport⟩
  | cons e rest =>
    rw [step_cons hport]
    cases e with
    | command w => exact (h.withPort rest).answers_execWord w
    | reset => exact ⟨_, rfl⟩

/-! ### A response of all ones (R206) -/

theorem ne_allOnes_of_bit {v : Word} {j : Nat} (hj : j < 32) (h : v.getLsbD j = false) : v ≠ allOnes := by
  rintro rfl
  exact absurd (h.symm.trans (BitVec.getLsbD_allOnes.trans (decide_eq_true hj))) (by decide)

theorem ne_allOnes_of_lt {v : Word} (h : v.toNat < 2 ^ 31) : v ≠ allOnes := by
  rintro rfl
  exact absurd h (by decide)

theorem zext_ne_allOnes (b : Byte) : zext b ≠ allOnes := ne_allOnes_of_lt (by simp [zext]; omega)

theorem ofNat_ne_allOnes {v : Nat} (h : v < 2 ^ 31) : BitVec.ofNat 32 v ≠ allOnes :=
  ne_allOnes_of_lt (by simp; omega)

theorem ne_allOnes_of_le_penaltyMax {v : Word} (h : v.toNat ≤ penaltyMax) : v ≠ allOnes :=
  ne_allOnes_of_lt (by unfold penaltyMax at h; omega)

theorem flagAt_zero_ne_allOnes (b : Bool) : flagAt b 0 ≠ allOnes := by
  cases b <;> decide

theorem formatWord_lt : ∀ d : BitVec 5, formatWord d.toNat < 2 ^ 31 := by decide +kernel

theorem versionWord_lt : ∀ v : BitVec 6, versionWord v.toNat < 2 ^ 31 := by decide +kernel

/-- R206: no command but `FCMD_RD` completes with a response of all ones: elements are bytes, totals are bounded, and
the two assembled words have reserved bits that are zero. -/
theorem State.Inv.effect_resp_ne_allOnes {s : State} (h : s.Inv) {i : Instr} (hc : completes s i) (hi : i ≠ .fcmdRd) :
    (effect s i).resp ≠ allOnes := by
  cases i with
  | fcmdRd => exact absurd rfl hi
  | gfMul a b => exact zext_ne_allOnes _
  | gfDiv a b => exact zext_ne_allOnes _
  | gfExp j => exact zext_ne_allOnes _
  | gfLog a => exact ofNat_ne_allOnes ((logTable_le a).trans_lt (by decide))
  | rsRd idx => exact zext_ne_allOnes _
  | rsSynd => exact flagAt_zero_ne_allOnes _
  | rsRdsyn j => exact zext_ne_allOnes _
  | rsRdgen j => exact zext_ne_allOnes _
  | bchFmt d => exact ofNat_ne_allOnes (formatWord_lt d)
  | bchVer v => exact ofNat_ne_allOnes (versionWord_lt v)
  | gridRd row col => exact flagAt_zero_ne_allOnes _
  | penScore =>
    obtain ⟨-, hgrid, hsize, -⟩ := hc
    exact ne_allOnes_of_le_penaltyMax (h.storeScores hgrid hsize).penTotal_le
  | penRd sel =>
    obtain ⟨h1, h2, h3, h4, htotal⟩ := h.penBounds
    refine ne_allOnes_of_le_penaltyMax ?_
    rw [effect, setResp_resp, State.penalty]
    split_ifs <;> assumption
  | selUpd m =>
    rw [effect]
    split
    · exact (by decide : 1#32 ≠ allOnes)
    · exact (by decide : 0#32 ≠ allOnes)
  | selRd =>
    refine ne_allOnes_of_bit (j := 27) (by decide) ?_
    exact (getLsbD_bestWord s (by decide)).trans (by simp)
  | statRd => exact ne_allOnes_of_bit (j := 31) (by decide) ((getLsbD_status_high s (by decide)).trans (by simp))
  | idRd => exact (by decide : Config.idValue ≠ allOnes)
  | _ => exact (by decide : 0 ≠ allOnes)

/-- Settles O55: a word that is ignored or takes a fault leaves the block `FAULTED`; one that completes does
not answer all ones. -/
theorem allOnesMeansFaulted : Obligations.AllOnesMeansFaulted := by
  intro s t w h hw hne hones
  rcases execWord_cases hw with ⟨hs, rfl⟩ | ⟨-, c, rfl⟩ | ⟨i, hi, hc, rfl⟩
  · exact hs
  · rfl
  · refine absurd hones (h.effect_resp_ne_allOnes hc ?_)
    rintro rfl
    exact hne (encode_eq_of_decode hi).symm

/-! ### Runs (R233) -/

/-- R233: no response to a word other than `FCMD_RD`'s is all ones. -/
def NoneAllOnes (ws rs : List Word) : Prop :=
  ∀ (n : Nat) (w : Word), ws[n]? = some w → w ≠ 0xF2000000#32 → rs[n]? ≠ some 0xFFFFFFFF#32

theorem noneAllOnes_cons {w r : Word} {ws rs : List Word} :
    NoneAllOnes (w :: ws) (r :: rs) ↔ (w ≠ 0xF2000000#32 → r ≠ 0xFFFFFFFF#32) ∧ NoneAllOnes ws rs := by
  constructor
  · exact fun h => ⟨fun hw hr => h 0 w rfl hw (congrArg some hr), fun n => h (n + 1)⟩
  · rintro ⟨hfirst, hrest⟩ n v hv hne
    cases n with
    | zero =>
      obtain rfl : w = v := Option.some.inj hv
      exact fun hr => hfirst hne (Option.some.inj hr)
    | succ n => exact hrest n v hv hne

/-- R204: fault entry answers all ones, and by a word other than `FCMD_RD`'s. -/
theorem resp_of_fault {s t : State} {w : Word} (hs : s.faulted = false) (hw : execWord w s = .next t)
    (ht : t.faulted = true) : w ≠ 0xF2000000#32 ∧ t.resp = 0xFFFFFFFF#32 := by
  obtain ⟨c, rfl⟩ := faultsArePrecise s t w hs hw ht
  refine ⟨?_, rfl⟩
  rintro rfl
  obtain heq := Host.Outcome.next.inj ((execWord_of_decode decode_fcmdRdWord s).symm.trans hw)
  have := congrArg State.faulted heq
  simp [hs] at this

/-- Settles O56: a run stays in `RUN` as long as no response is all ones, and once `FAULTED` it stays so. -/
theorem runSucceedsIffNoResponseIsAllOnes : Obligations.RunSucceedsIffNoResponseIsAllOnes := by
  intro s ws h hs hreset
  induction ws generalizing s with
  | nil => exact ⟨[], s, rfl, by simp [State.successful, hs]⟩
  | cons w ws ih =>
    obtain ⟨hwreset, hreset⟩ := List.ne_and_not_mem_of_not_mem_cons hreset
    obtain ⟨t, hw⟩ := h.answers_execWord w
    cases ht : t.faulted
    · obtain ⟨rs, u, hrun, hiff⟩ := ih t (h.afterWord hw) ht hreset
      refine ⟨t.resp :: rs, u, by rw [runWords_cons hw, hrun]; rfl, hiff.trans ?_⟩
      have hfirst : w ≠ 0xF2000000#32 → t.resp ≠ 0xFFFFFFFF#32 := fun hne hones => by
        simp [allOnesMeansFaulted s t w h hw hne hones] at ht
      exact (and_iff_right hfirst).symm.trans noneAllOnes_cons.symm
    · obtain ⟨rs, hrun⟩ := faultIsKeptUntilReset t ws ht hreset
      obtain ⟨hne, hones⟩ := resp_of_fault hs hw ht
      refine ⟨t.resp :: rs, _, by rw [runWords_cons hw, hrun]; rfl, ?_⟩
      simp only [State.successful, ht, Bool.not_true, Bool.false_eq_true, false_iff]
      exact fun hnone => (noneAllOnes_cons.1 hnone).1 hne hones

end Sys2Proof.Machine

end

section
/-! The pseudo-commands of R79: what the runs of their expansions leave in the buffer and in the grid. -/

namespace Sys2Proof.Machine

open Sys2Proof.Reference

/-- R74: an index that fits its operand field. -/
theorem toNat_ofNat_byte {i : Nat} (h : i < 256) : (BitVec.ofNat 8 i).toNat = i := by
  rw [BitVec.toNat_ofNat, Nat.mod_eq_of_lt h]

/-- R11: a run of commands' words, its first command executed. -/
theorem runWords_encode_cons {s t u : State} {i : Instr} {is : List Instr} {rs : List Word} (hexec : exec i s = .next t)
    (hrun : runWords t (is.map encode) = some (rs, u)) :
    runWords s ((i :: is).map encode) = some (t.resp :: rs, u) := by
  rw [List.map_cons, runWords_cons ((execWord_of_decode (decode_encode i) s).trans hexec), hrun]
  rfl

/-- R79: `RS_LOAD`'s commands are the writes of its bytes, one after the other. -/
theorem runWords_rsLoadFrom (bytes : List Byte) {s : State} (h : s.RsReady) {i : Nat}
    (hi : i + bytes.length ≤ s.rsK.toNat + s.rsR.toNat) :
    ∃ rs t, runWords s ((rsLoadFrom i bytes).map encode) = some (rs, t) ∧ t.cw = s.cw.writeFrom i bytes := by
  induction bytes generalizing s i with
  | nil => exact ⟨[], s, rfl, rfl⟩
  | cons b bytes ih =>
    rw [List.length_cons] at hi
    have hlen := h.lengthMax
    have hindex : (BitVec.ofNat 8 i).toNat = i := toNat_ofNat_byte (by omega)
    have hexec := h.exec_rsWr (idx := BitVec.ofNat 8 i) (by omega) b
    obtain ⟨rs, t, hrun, hcw⟩ := ih (h.of_rsWr (BitVec.ofNat 8 i) b) (i := i + 1)
      (by show i + 1 + bytes.length ≤ s.rsK.toNat + s.rsR.toNat; omega)
    refine ⟨_, t, runWords_encode_cons hexec hrun, hcw.trans ?_⟩
    exact congrArg (fun k => (s.cw.write k b).writeFrom (i + 1) bytes) hindex

/-- The modules behind the first stand one position further on. -/
theorem marked_cons_iff {m : Bool} {modules : List Bool} {x j : Nat} (hj : j ≠ x) :
    x ≤ j ∧ (m :: modules).getD (j - x) false = true ↔ x + 1 ≤ j ∧ modules.getD (j - (x + 1)) false = true := by
  by_cases hxj : x + 1 ≤ j
  · rw [show j - x = j - (x + 1) + 1 by omega, List.getD_cons_succ]
    simp only [hxj, show x ≤ j by omega]
  · simp only [hxj, show ¬ x ≤ j by omega, false_and]

/-- R79: `GRID_ROW`'s commands make the modules marked dark in its row dark, from position `x` on. -/
theorem runWords_gridRowFrom (modules : List Bool) {s : State} (h : s.GridReady) {y : Byte}
    (hy : y.toNat < s.gridN.toNat) {x : Nat} (hx : x + modules.length ≤ s.gridN.toNat) :
    ∃ rs t, runWords s ((gridRowFrom y x modules).map encode) = some (rs, t) ∧ ∀ i j, t.grid.module i j =
      if i = y.toNat ∧ x ≤ j ∧ modules.getD (j - x) false = true then true else s.grid.module i j := by
  induction modules generalizing s x with
  | nil => exact ⟨[], s, rfl, by simp⟩
  | cons m modules ih =>
    rw [List.length_cons] at hx
    have hmax := h.sizeMax
    cases m with
    | false =>
      obtain ⟨rs, t, hrun, hgrid⟩ := ih h hy (x := x + 1) (by omega)
      refine ⟨rs, t, hrun, fun i j => (hgrid i j).trans (if_congr (and_congr_right fun _ => ?_) rfl rfl)⟩
      by_cases hj : j = x
      · subst hj
        simp
      · exact (marked_cons_iff hj).symm
    | true =>
      have hindex : (BitVec.ofNat 8 x).toNat = x := toNat_ofNat_byte (by omega)
      have hexec := h.exec_gridWr (row := y) (col := BitVec.ofNat 8 x) hy (by omega) 1#1
      obtain ⟨rs, t, hrun, hgrid⟩ := ih (h.of_gridWr y (BitVec.ofNat 8 x) 1#1) hy (x := x + 1)
        (by show x + 1 + modules.length ≤ s.gridN.toNat; omega)
      refine ⟨_, t, runWords_encode_cons hexec hrun, fun i j => (hgrid i j).trans ?_⟩
      rw [h.module_gridWr hy (by omega), hindex]
      by_cases hj : j = x
      · subst hj
        simp [moduleOf]
      · rw [if_neg (c := i = y.toNat ∧ j = x) fun hij => hj hij.2]
        exact if_congr (and_congr_right fun _ => (marked_cons_iff hj).symm) rfl rfl

/-- Settles O57: each expansion is a run of writes of one element, by induction on what is listed. -/
theorem pseudoCommandsLoadWhatTheyList : Obligations.PseudoCommandsLoadWhatTheyList := by
  constructor
  · intro s bytes h hlen
    obtain ⟨rs, t, hrun, hcw⟩ := runWords_rsLoadFrom bytes h (i := 0) (by omega)
    have hmax := h.lengthMax
    refine ⟨_, rs, t, if_pos (by omega), hrun, fun i => ?_⟩
    rw [hcw, Memory.read_writeFrom]
    simp
  · intro s y modules h hy hlen
    obtain ⟨rs, t, hrun, hgrid⟩ := runWords_gridRowFrom modules h hy (x := 0) (by omega)
    have hmax := h.sizeMax
    refine ⟨_, rs, t, if_pos (by omega), hrun, fun i j => ?_⟩
    rw [hgrid]
    simp

end Sys2Proof.Machine

end
